-- ==== Sys2Proof/Config.lean ====
section
/-! DEFINITION. The fixed values of the part (R13), which no request and no reset changes, and the sizes of its tables.
Settings and limits that requests change are state (Machine/State.lean). The manual leaves no result of an operation
open, so there is no opaque free value here (notes/assumptions/2.md). -/

namespace Sys2Proof.Config

/-- Sag recovery margin, in volts (R13, R150). -/
def sagRecovery : Nat := 100
/-- Floor of the sag trim, in eighths (R13, R150). -/
def sagFloor : Nat := 4
/-- The sag trim of an untrimmed section, in eighths (R150). -/
def sagFull : Nat := 8
/-- Scans of one kind in a row that set or clear the unaccounted flag (R13, R153). -/
def unaccPersistence : Nat := 5
/-- Trip window, in milliseconds (R13, R173). -/
def tripWindow : Nat := 60000
/-- The trip of a window that locks the section out (R13, R173). -/
def tripLimit : Nat := 3
/-- Breaker confirm time, in milliseconds, for closing and for opening (R13, R167, R168). -/
def breakerConfirm : Nat := 200
/-- Precharge window, in milliseconds (R13, R166). -/
def prechargeWindow : Nat := 2000
/-- Readings of one integrity test (R13, R163). -/
def testReadings : Nat := 3
/-- Test timeout, in milliseconds (R13, R165). -/
def testTimeout : Nat := 5000
/-- Test settle time, in milliseconds (R13, R163). -/
def testSettle : Nat := 50
/-- Resistance below which the line is shorted, in ohms (R13, R164). -/
def shortOhms : Nat := 20
/-- Resistance from which the line is clear, in ohms (R13, R164). -/
def clearOhms : Nat := 500
/-- Greatest resistance reading, in ohms (R163). -/
def maxOhms : Nat := 65535
/-- Consecutive bad scans to the measurement fault (R13, R134). -/
def badScanLimit : Nat := 3
/-- Cap of the time between good scans, in milliseconds (R13, R133). -/
def dtCap : Nat := 1000
/-- Period of the input filter, in milliseconds (R13, R140). -/
def filterPeriod : Nat := 2
/-- Report age of the idle release, in milliseconds (R13, R29). -/
def idleAge : Nat := 60000
/-- Period of the arc tally decay, in milliseconds (R13, R24). -/
def arcDecay : Nat := 2000
/-- Clamp of one arc increment (R13, R22). -/
def arcClamp : Nat := 32
/-- Saturation of the arc tally (R22). -/
def arcMax : Nat := 63
/-- Distance beyond a wire end at which an enrolled truck is released, in metres (R13, R34). -/
def releaseDistance : Nat := 50
/-- Floor of the distance in the voltage limit, in metres (R13, R106). -/
def distanceFloor : Nat := 50
/-- Greatest voltage limit, in amperes (R106). -/
def maxVoltageLimit : Nat := 12000
/-- Highest position, in metres (R2). -/
def maxPosition : Nat := 8191
/-- Highest speed, in decimetres per second. -/
def maxSpeed : Nat := 200
/-- Highest reported current, demand and grant, in amperes (R19). -/
def maxCurrent : Nat := 3000
/-- Saturation of the report age, in milliseconds (R26). -/
def maxAge : Nat := 65535
/-- Saturation of the bad-scan run, and highest 16-bit count (R129, R134). -/
def max16 : Nat := 65535
/-- Modulus of the wrapping 16-bit counts (R125, R129). -/
def wrap16 : Nat := 65536
/-- Modulus of the charge meters (R32). -/
def meterWrap : Nat := 4294967296
/-- Saturation of a meter's wrap count (R32). -/
def maxWraps : Nat := 255
/-- Places of one admission queue (R86). -/
def queueSize : Nat := 8
/-- Inbound slots of the Control Link (R193). -/
def inboundSlots : Nat := 4
/-- Least code of the reference channel in a good scan (R132). -/
def refLow : Nat := 2028
/-- Greatest code of the reference channel in a good scan (R132). -/
def refHigh : Nat := 2068
/-- Least and greatest body length of a link frame (R191). -/
def minBody : Nat := 2
/-- Greatest body length of a link frame (R191). -/
def maxBody : Nat := 60
/-- The sync byte of a link frame (R191). -/
def syncByte : BitVec 8 := 0xA5

end Sys2Proof.Config
end

