-- ==== Sys2Proof/Word.lean ====
section
/-! DEFINITION. The widths the CT-460 works with: link bytes, big-endian fields of the link layouts, and the index types
of its sections, gaps and roster slots. Quantities the manual only adds and compares (currents, positions, times) are
natural numbers, because R1 asks for exact whole-number arithmetic. -/

namespace Sys2Proof

/-- One byte of the Control Link (R190). -/
abbrev Byte := BitVec 8

/-- A two-byte field of a link frame, high byte first (R191). -/
abbrev Half := BitVec 16

/-- A four-byte field of a link frame, high byte first (R191). -/
abbrev Full := BitVec 32

/-- A section S1 to S6, numbered from 0: index 0 is S1. -/
abbrev SecIx := Fin 6

/-- An interior gap 1 to 5, numbered from 0: index `g` is gap `g + 1`, between sections of index `g` and `g + 1`. -/
abbrev GapIx := Fin 5

/-- A roster slot 0 to 15 (R16). -/
abbrev SlotIx := Fin 16

/-- Two link bytes as one field, high byte first. -/
def half (hi lo : Byte) : Half := hi ++ lo

/-- Four link bytes as one field, high byte first. -/
def full (b3 b2 b1 b0 : Byte) : Full := b3 ++ b2 ++ b1 ++ b0

/-- The high byte of a two-byte field. -/
def Half.hi (h : Half) : Byte := h.extractLsb' 8 8

/-- The low byte of a two-byte field. -/
def Half.lo (h : Half) : Byte := h.extractLsb' 0 8

/-- Byte `n` of a four-byte field, byte 0 the lowest. -/
def Full.byte (f : Full) (n : Nat) : Byte := f.extractLsb' (8 * n) 8

end Sys2Proof
end

