-- ==== Sys2Proof/Syntax.lean ====
section
/-! DEFINITION. The commands of the CT-460: one constructor per row of spec/opcode_table.json. Requests carry what their
link frame carries (R202): the request tag, the length of the body received, and the fields as the bytes spell them,
unchecked. Events carry the object they happen to, and what the plant supplies at them (converted codes, input levels). -/

namespace Sys2Proof

/-- What every request frame carries beside its fields: the request tag, and the length of the body received, which
R195 compares with the length of the request's kind. -/
structure ReqHdr where
  tag : Byte
  bodyLen : Nat
  deriving DecidableEq, Repr

/-- The fields of CONFIGURE-SECTION, in the order of R202. -/
structure ConfigFields where
  sec : Byte
  lower : Half
  upper : Half
  feed : Half
  f : Half
  fp : Half
  trip : Half
  heatLimit : Full
  r : Byte
  cap : Byte
  returnCeiling : Half
  reclose : Byte
  deriving DecidableEq, Repr

/-- The fields of SET-LIMITS, in the order of R202. -/
structure LimitFields where
  vMin : Half
  vMax : Half
  c : Half
  z : Byte
  e : Byte
  shedDeadline : Half
  raiseWindow : Half
  lowerWindow : Half
  staleLimit : Half
  slew : Half
  unaccounted : Half
  patienceLoaded : Byte
  patienceEmpty : Byte
  patienceService : Byte
  arcLimit : Byte
  barTime : Half
  deriving DecidableEq, Repr

/-- The fields of ENROL, in the order of R202. -/
structure EnrolFields where
  truck : Half
  cls : Byte
  dir : Byte
  position : Half
  speed : Byte
  deriving DecidableEq, Repr

/-- The fields of REPORT, in the order of R202. -/
structure ReportFields where
  truck : Half
  position : Half
  speed : Byte
  dir : Byte
  cls : Byte
  panto : Byte
  current : Half
  demand : Half
  count : Byte
  deriving DecidableEq, Repr

/-- Why a received frame is discarded (R192); the inter-byte timeout has a command of its own. -/
inductive DiscardCause where
  | badLength | checkMismatch | framingError
  deriving DecidableEq, Repr

/-- The levels of the twelve discrete inputs at one sample (R139, R140): true is closed or active. -/
structure InputLevels where
  breakers : Vector Bool 6
  gaps : Vector Bool 5
  stop : Bool
  deriving DecidableEq, Repr

/-- The commands, one per row of the operation table, in the table's order. -/
inductive Instr where
  /-- CONFIGURE_SECTION (R9). -/
  | configureSection (h : ReqHdr) (x : ConfigFields)
  /-- SET_LIMITS (R10). -/
  | setLimits (h : ReqHdr) (x : LimitFields)
  /-- SET_CADENCE (R136): the mode code and the period. -/
  | setCadence (h : ReqHdr) (mode : Byte) (period : Half)
  /-- SCAN (R137). -/
  | scan (h : ReqHdr)
  /-- ENERGIZE (R161): the section and the allow-occupied code. -/
  | energize (h : ReqHdr) (sec : Byte) (allow : Byte)
  /-- DE_ENERGIZE (R176). -/
  | deEnergize (h : ReqHdr) (sec : Byte)
  /-- CLEAR_LOCKOUT (R178). -/
  | clearLockout (h : ReqHdr) (sec : Byte)
  /-- ENROL (R18). -/
  | enrol (h : ReqHdr) (x : EnrolFields)
  /-- REPORT (R20). -/
  | report (h : ReqHdr) (x : ReportFields)
  /-- RAISE (R44). -/
  | raise (h : ReqHdr) (truck : Half)
  /-- DEPART (R33). -/
  | depart (h : ReqHdr) (truck : Half)
  /-- QUERY_SECTION (R196). -/
  | querySection (h : ReqHdr) (sec : Byte)
  /-- QUERY_TRUCK (R37). -/
  | queryTruck (h : ReqHdr) (truck : Half)
  /-- QUERY_QUEUE (R97). -/
  | queryQueue (h : ReqHdr) (sec : Byte)
  /-- ATTEND (R184). -/
  | attend (h : ReqHdr)
  /-- ACK_ALERT (R185). -/
  | ackAlert (h : ReqHdr)
  /-- MASK_SECTION (R186): the section and the setting code. -/
  | maskSection (h : ReqHdr) (sec : Byte) (setting : Byte)
  /-- SELF_CHECK (R197). -/
  | selfCheck (h : ReqHdr)
  /-- RESTART (R203). -/
  | restart (h : ReqHdr)
  /-- UNKNOWN_KIND_REQUEST (R195): a complete frame whose kind byte names no request. -/
  | unknownKindRequest (h : ReqHdr) (kind : Byte)
  /-- FRAME_DISCARDED (R192). -/
  | frameDiscarded (cause : DiscardCause)
  /-- FRAME_BUFFER_FULL (R193). -/
  | frameBufferFull
  /-- LINK_INTER_BYTE_TIMEOUT (R192): the byte that arrives after the gap, which is taken as a new candidate for sync. -/
  | linkInterByteTimeout (next : Byte)
  /-- TRANSMIT_FRAME_END (R198). -/
  | transmitFrameEnd
  /-- RESET (R204): whether the first and the second rate strap are closed. -/
  | reset (strap1 strap2 : Bool)
  /-- CADENCE_TIMER_EXPIRY (R135). -/
  | cadenceTimerExpiry
  /-- SCAN_COMPLETION (R131): the 22 codes converted from the samples held since the trigger. -/
  | scanCompletion (codes : Vector (BitVec 12) 22)
  /-- FPR_SCAN_EVALUATION (R144). -/
  | fprScanEvaluation
  /-- FSQ_SCAN_EVALUATION (R163). -/
  | fsqScanEvaluation
  /-- BUDGET_CYCLE_INPUTS (R103). -/
  | budgetCycleInputs
  /-- BUDGET_CYCLE_PUBLICATION (R119). -/
  | budgetCyclePublication
  /-- BREAKER_FEEDBACK_CLOSED (R167). -/
  | breakerFeedbackClosed (k : SecIx)
  /-- BREAKER_FEEDBACK_OPEN (R172). -/
  | breakerFeedbackOpen (k : SecIx)
  /-- GAP_SENSOR_ACTIVATION (R81). -/
  | gapSensorActivation (g : GapIx)
  /-- GAP_SENSOR_DEACTIVATION (R82). -/
  | gapSensorDeactivation (g : GapIx)
  /-- STOP_ACTIVATION (R177). -/
  | stopActivation
  /-- STOP_RELEASE (R177). -/
  | stopRelease
  /-- RAISE_WINDOW_EXPIRY (R47). -/
  | raiseWindowExpiry (slot : SlotIx)
  /-- LOWER_WINDOW_EXPIRY (R54). -/
  | lowerWindowExpiry (slot : SlotIx)
  /-- SHED_DEADLINE_EXPIRY (R68). -/
  | shedDeadlineExpiry (slot : SlotIx)
  /-- STALE_POINT_PASSED (R27). -/
  | stalePointPassed (slot : SlotIx)
  /-- STALE_LOWER (R28). -/
  | staleLower (slot : SlotIx)
  /-- IDLE_RELEASE (R29). -/
  | idleRelease (slot : SlotIx)
  /-- ARC_TALLY_DECAY (R24). -/
  | arcTallyDecay (slot : SlotIx)
  /-- RAISE_BAR_EXPIRY (R25). -/
  | raiseBarExpiry (slot : SlotIx)
  /-- TEST_TIMEOUT (R165). -/
  | testTimeout (k : SecIx)
  /-- PRECHARGE_WINDOW_EXPIRY (R166). -/
  | prechargeWindowExpiry (k : SecIx)
  /-- CLOSE_CONFIRM_EXPIRY (R167). -/
  | closeConfirmExpiry (k : SecIx)
  /-- OPEN_CONFIRMATION_EXPIRY (R168). -/
  | openConfirmationExpiry (k : SecIx)
  /-- RECLOSE_TIMER_EXPIRY (R174). -/
  | recloseTimerExpiry (k : SecIx)
  /-- TRIP_WINDOW_EXPIRY (R173). -/
  | tripWindowExpiry (k : SecIx)
  /-- INPUT_FILTER_SAMPLING (R140): the levels the twelve inputs read. -/
  | inputFilterSampling (levels : InputLevels)
  deriving DecidableEq, Repr

end Sys2Proof
end

