-- ==== Sys2Proof/Decode.lean ====
section
/-! DEFINITION. The operation table gives its rows no bits, so a table word spells no command. -/

namespace Sys2Proof

/-- The command a table word spells: none, since no row of the operation table gives bits. -/
def decodeTableWord (_nbits _w : Nat) : Option Instr := none

end Sys2Proof
end

