-- ==== Sys2Proof/Machine/State.lean ====
section
/-! DEFINITION. What the CT-460 holds, block by block as 00_scope.md lists the blocks, and its state right after reset.
Timers that exist in one state of a feeder or of a truck are arguments of that state's constructor, so that they go when
the state is left (R40, R159, R171). Outputs that follow from other state (READY, ALERT, the contactor outputs) are
computed in Machine/Flags.lean and not stored twice. -/

namespace Sys2Proof.Machine

/-! ### Settings and limits -/

/-- The eleven settings of a configured section (table of R5). Currents in amperes, positions in metres. -/
structure Settings where
  lower : Nat
  upper : Nat
  feed : Nat
  f : Nat
  fp : Nat
  trip : Nat
  heatLimit : Nat
  r : Nat
  cap : Nat
  returnCeiling : Nat
  /-- Reclose delay in seconds, 0 for no reclose. -/
  reclose : Nat
  deriving DecidableEq, Repr

/-- The sixteen global limits (table of R10). -/
structure Limits where
  vMin : Nat
  vMax : Nat
  c : Nat
  z : Nat
  e : Nat
  shedDeadline : Nat
  raiseWindow : Nat
  lowerWindow : Nat
  staleLimit : Nat
  slew : Nat
  unaccounted : Nat
  patienceLoaded : Nat
  patienceEmpty : Nat
  patienceService : Nat
  arcLimit : Nat
  /-- Contact bar time in seconds. -/
  barTime : Nat
  deriving DecidableEq, Repr

/-- The defaults of the global limits (table of R10, R14). -/
def Limits.default : Limits where
  vMin := 1900
  vMax := 3000
  c := 100
  z := 40
  e := 10
  shedDeadline := 1500
  raiseWindow := 5000
  lowerWindow := 5000
  staleLimit := 2000
  slew := 400
  unaccounted := 300
  patienceLoaded := 10
  patienceEmpty := 30
  patienceService := 60
  arcLimit := 6
  barTime := 60

/-! ### Feeder Sequencer -/

/-- The state of a section's feeder with the timers and values that exist in that state only (R159). -/
inductive Phase where
  | unset
  | dead
  | testPending (allow : Bool)
  /-- TESTING: allow-occupied, readings in order of taking, settle instant, test timeout remaining. -/
  | testing (allow : Bool) (readings : List Nat) (settleAt : Nat) (timeout : Nat)
  /-- PRECHARGE: instant of entry, precharge window remaining. -/
  | precharge (since : Nat) (window : Nat)
  /-- CLOSING: close confirm remaining. -/
  | closing (confirm : Nat)
  | live
  /-- TRIPPED: reclose timer remaining, thermal wait. -/
  | tripped (reclose : Option Nat) (thermalWait : Bool)
  | lockedOut
  deriving DecidableEq, Repr

/-- The feeder states by name, in the order of the codes of R202. -/
inductive FState where
  | unset | dead | testPending | testing | precharge | closing | live | tripped | lockedOut
  deriving DecidableEq, Repr

/-- The feeder state of a phase. -/
def Phase.state : Phase → FState
  | .unset => .unset
  | .dead => .dead
  | .testPending _ => .testPending
  | .testing _ _ _ _ => .testing
  | .precharge _ _ => .precharge
  | .closing _ => .closing
  | .live => .live
  | .tripped _ _ => .tripped
  | .lockedOut => .lockedOut

/-- The causes of a feeder state, in the order of the table of R160 (codes 1 to 23 of R202). -/
inductive Cause where
  | reset
  | configured | deEnergize | testOccupied | testTimeout | stop | busTrip | restart | lockoutCleared
  | energize | reclose
  | lineClear | lineOccupied
  | precharged
  | closed
  | overcurrent | thermal | uncommandedOpen
  | lineFault | prechargeFail | closeFail | breakerStuck | repeatedTrip
  deriving DecidableEq, Repr

/-- The Feeder Sequencer's record of one section (R159). -/
structure Feeder where
  phase : Phase
  cause : Cause
  /-- Open confirmation remaining, while it runs (R168). -/
  openConfirm : Option Nat
  tripCount : Nat
  tripWindow : Option Nat
  deriving DecidableEq, Repr

/-! ### Feeder Protection -/

/-- Feeder Protection's record of one section (R143). -/
structure Prot where
  feederCurrent : Nat
  feedVoltage : Nat
  farVoltage : Nat
  lastScan : Option Nat
  heat : Nat
  sag : Nat
  lastDraw : Nat
  highRun : Nat
  lowRun : Nat
  unaccounted : Bool
  deduction : Nat
  fixedLoad : Nat
  deriving DecidableEq, Repr

/-! ### Budget Engine, per section -/

/-- The Budget Engine's record of one section (R100). -/
structure SecBudget where
  ceiling : Nat
  /-- The number of the cycle that set the ceiling (R196). -/
  ceilingCycle : Nat
  pointer : SlotIx
  livePeriod : Nat
  deriving DecidableEq, Repr

/-! ### Admission Queues -/

/-- An admission queue entry (R86). -/
structure QEntry where
  slot : SlotIx
  countdown : Nat
  urgent : Bool
  deriving DecidableEq, Repr

/-- A section: its settings (none while UNSET), and what four blocks hold for it. The queue is oldest first. -/
structure Sec where
  settings : Option Settings
  feeder : Feeder
  prot : Prot
  budget : SecBudget
  queue : List QEntry
  deriving DecidableEq, Repr

/-! ### Truck Roster -/

inductive TruckClass where
  | loaded | empty | service
  deriving DecidableEq, Repr

inductive Dir where
  | climb | descend
  deriving DecidableEq, Repr

/-- Pantograph as last reported: true is UP. -/
inductive Panto where
  | down | up
  deriving DecidableEq, Repr

/-- The state a held truck had before the hold (R58). -/
inductive Prior where
  | cleared | onWire | shedding | crossing
  deriving DecidableEq, Repr

/-- The contact state with the timers and context present in that state only (R40, R64). -/
inductive Contact where
  | enrolled
  | waiting
  /-- CLEARED: raise window remaining. -/
  | cleared (window : Nat)
  | onWire
  /-- SHEDDING: crossing gap, shed deadline remaining. -/
  | shedding (gap : GapIx) (deadline : Nat)
  /-- CROSSING: crossing gap. -/
  | crossing (gap : GapIx)
  /-- HELD: prior state and prior grant. -/
  | held (prior : Prior) (grant : Nat)
  /-- LOWERING: lower window remaining, or none for the stuck mark (R54). -/
  | lowering (window : Option Nat)
  deriving DecidableEq, Repr

/-- The contact states by name, in the order of the codes of R202. -/
inductive CState where
  | enrolled | waiting | cleared | onWire | shedding | crossing | held | lowering
  deriving DecidableEq, Repr

/-- The name of a contact state. -/
def Contact.state : Contact → CState
  | .enrolled => .enrolled
  | .waiting => .waiting
  | .cleared _ => .cleared
  | .onWire => .onWire
  | .shedding _ _ => .shedding
  | .crossing _ => .crossing
  | .held _ _ => .held
  | .lowering _ => .lowering

/-- The zone of concern of a truck (R4, R64). -/
inductive Zone where
  | none
  | approach (gap : GapIx)
  | topEnd
  | bottomEnd
  deriving DecidableEq, Repr

/-- A truck record (table of R16, with the Gap Monitor's items of R64). -/
structure Truck where
  tag : Nat
  cls : TruckClass
  dir : Dir
  sec : Option SecIx
  reported : Nat
  est : Nat
  rem : Nat
  speed : Nat
  panto : Panto
  current : Nat
  demand : Nat
  lastCount : Option Nat
  arc : Nat
  decayTimer : Nat
  bar : Option Nat
  age : Nat
  stalePoint : Nat
  stale : Bool
  contact : Contact
  grant : Nat
  firstCap : Option Nat
  drawMeter : Nat
  drawWraps : Nat
  retMeter : Nat
  retWraps : Nat
  zone : Zone
  inside : Bool
  deriving DecidableEq, Repr

/-- A roster slot (R16). -/
inductive Slot where
  | free
  | occupied (t : Truck)
  | releasePending
  deriving DecidableEq, Repr

/-! ### Sampler and Input Filter -/

inductive Cadence where
  | off | periodic | single
  deriving DecidableEq, Repr

/-- A scan result (R131). The scaled values of R130 follow from the codes (Machine/Operands.lean). -/
structure ScanResult where
  number : Nat
  instant : Nat
  good : Bool
  codes : Vector (BitVec 12) 22
  /-- The time since the previous good scan; none for a bad scan (R133). -/
  dt : Option Nat
  deriving DecidableEq, Repr

/-- The Sampler (R129). -/
structure Sampler where
  mode : Cadence
  period : Nat
  timer : Option Nat
  /-- The sampling instant of the scan in flight. -/
  inFlight : Option Nat
  dtBase : Option Nat
  last : Option ScanResult
  badRun : Nat
  count : Nat
  deriving DecidableEq, Repr

/-- The two sample stages and the filtered value of one discrete input (R139). -/
structure Filter where
  older : Option Bool
  newer : Option Bool
  value : Bool
  deriving DecidableEq, Repr

/-- A filtered change handed to its owner (R141). -/
inductive Change where
  | breaker (k : SecIx) (closed : Bool)
  | gap (g : GapIx) (active : Bool)
  | stop (active : Bool)
  deriving DecidableEq, Repr

/-- The Input Filter (R139, R140). -/
structure InputFilter where
  breakers : Vector Filter 6
  gaps : Vector Filter 5
  stop : Filter
  /-- Time to the next sample. -/
  timer : Nat
  /-- Filtered changes handed over and not yet taken by their owners, oldest first. -/
  handed : List Change
  deriving DecidableEq, Repr

/-! ### The cycle in progress -/

/-- A truck record as the cycle took it (R103, R31), with what has happened to the record since. -/
structure TruckIn where
  sec : Option SecIx
  dir : Dir
  cls : TruckClass
  contact : Contact
  stale : Bool
  est : Nat
  speed : Nat
  current : Nat
  demand : Nat
  grant : Nat
  firstCap : Option Nat
  /-- A REPORT has been taken for the record since the inputs (R31). -/
  reported : Bool
  /-- The record has been restored since the inputs (R120, R124). -/
  restored : Bool
  /-- The record has been transferred into ON-WIRE since the inputs (R73, R120). -/
  transferred : Bool
  deriving DecidableEq, Repr

/-- A section as the cycle took it (R103). -/
structure SecIn where
  settings : Option Settings
  live : Bool
  period : Nat
  heat : Nat
  sag : Nat
  deduction : Nat
  fixedLoad : Nat
  pointer : SlotIx
  feedVoltage : Nat
  deriving DecidableEq, Repr

/-- What a cycle computed for one section (R104 to R117). -/
structure SecOut where
  /-- A1, the ceiling to publish (R107). -/
  ceiling : Nat
  /-- A split was counted for the rotation pointer (R112, R117). -/
  split : Bool
  /-- The V_max cut set the return pool to 0 (R115, R122). -/
  cut : Bool
  deriving DecidableEq, Repr

/-- The cycle in progress: its inputs and its computed results (R100, R103). -/
structure Cycle where
  dt : Nat
  vMin : Nat
  vMax : Nat
  c : Nat
  slew : Nat
  secs : Vector SecIn 6
  trucks : Vector (Option TruckIn) 16
  outs : Vector (Option SecOut) 6
  /-- The computed grant of each slot's truck, in amperes; none where the cycle computed none (R114). -/
  grants : Vector (Option Nat) 16
  /-- A measurement-fault cut or a RESTART has been taken since the inputs (R119). -/
  discard : Bool
  deriving DecidableEq, Repr

/-! ### Alert List -/

/-- The alert kinds in order of rank (R181). -/
inductive AlertKind where
  | stop | measureFault | breakerStuck | lineFault | gapOverrun | contactStuck | unexpectedBridge | trip
  | lockout | unaccountedDraw | sag | contactFault
  deriving DecidableEq, Repr

/-- An alert record (R181). Section 0 is `none`. -/
structure Alert where
  kind : AlertKind
  sec : Option SecIx
  cycle : Nat
  tag : Option Nat
  /-- Recurrence cycle number and recurrence tag, present while the recurrence flag is set. -/
  recur : Option (Nat × Option Nat)
  deriving DecidableEq, Repr

/-- The Alert List (R182, R186). -/
structure AlertList where
  pending : List Alert
  attended : Option Alert
  masks : Vector Bool 6
  deriving DecidableEq, Repr

/-! ### Control Link -/

/-- The link rates in the order of the table of R190. -/
inductive LinkRate where
  | r115200 | r230400 | r460800 | r921600
  deriving DecidableEq, Repr

/-- The receiver (R192): hunting for a sync byte, waiting for the length, or taking the rest of a frame: how many
bytes are still to come, and those taken since the sync byte, latest first. -/
inductive Rx where
  | hunting
  | length
  | rest (left : Nat) (taken : List Byte)
  deriving DecidableEq, Repr

/-- The reasons of a lowering order, in the order of the table of R52. -/
inductive LowerReason where
  | atEnd | shedLate | overrun | stale | contact | uncleared | direction
  deriving DecidableEq, Repr

/-- The orders of R62, with what their notices carry. -/
inductive Order where
  | clearToRaise (window : Nat)
  | raiseExpired
  | raiseCancelled
  | shed (deadline : Nat) (c : Nat)
  | lower (reason : LowerReason) (window : Nat)
  | hold
  | resume (state : CState) (grant : Nat)
  deriving DecidableEq, Repr

/-- The notices of R199. The sense of a GRANT is the truck's direction: a draw for CLIMB, a return for DESCEND. -/
inductive Notice where
  | grant (slot : SlotIx) (tag : Nat) (amps : Nat) (sense : Dir) (cycle : Nat)
  | order (slot : SlotIx) (tag : Nat) (o : Order) (cycle : Nat)
  | sec (k : SecIx) (state : FState) (cause : Cause) (cycle : Nat)
  | released (slot : SlotIx) (tag : Nat) (draw drawWraps ret retWraps : Nat) (cycle : Nat)
  deriving DecidableEq, Repr

/-- The reject reasons in the order of the table of R195. -/
inductive Reason where
  | malformed | unknownKind | range | state | busy | duplicate | unknownTruck | full | queueFull | geometry
  | position | barred | stopped | busTripped
  deriving DecidableEq, Repr

/-- What QUERY-SECTION returns (R196). -/
structure SectionView where
  sec : SecIx
  state : FState
  cause : Cause
  tripCount : Nat
  feederCurrent : Nat
  feedVoltage : Nat
  farVoltage : Nat
  lastScan : Option Nat
  heat : Nat
  sag : Nat
  unaccounted : Bool
  ceiling : Nat
  ceilingCycle : Nat
  onWire : Nat
  entries : Nat
  busTrip : Bool
  cycle : Nat
  deriving DecidableEq, Repr

/-- One entry as QUERY-QUEUE returns it (R97). -/
structure EntryView where
  slot : SlotIx
  tag : Nat
  cls : TruckClass
  dir : Dir
  countdown : Nat
  urgent : Bool
  eligible : Bool
  deriving DecidableEq, Repr

/-- The data of a reply (R195 and the rule of each request). -/
inductive ReplyData where
  /-- REJECT with its reason, and the remaining seconds of the raise bar for BARRED. -/
  | reject (why : Reason) (seconds : Nat)
  /-- ACCEPT of SET-LIMITS and RESTART. -/
  | accept
  /-- ACCEPT of CONFIGURE-SECTION, ENERGIZE, DE-ENERGIZE and CLEAR-LOCKOUT. -/
  | sectionState (k : SecIx) (state : FState)
  /-- ACCEPT of SET-CADENCE. -/
  | cadence (mode : Cadence) (period : Nat)
  /-- ACCEPT of SCAN. -/
  | scanCount (n : Nat)
  /-- ACCEPT of ENROL and DEPART. -/
  | slot (i : SlotIx)
  /-- ACCEPT of REPORT. -/
  | report (i : SlotIx) (contact : CState) (grant : Nat)
  /-- ACCEPT of RAISE: true is CLEARED, false is WAITING. -/
  | raise (i : SlotIx) (cleared : Bool)
  | querySection (v : SectionView)
  /-- ACCEPT of QUERY-TRUCK: the slot, the record and the number of the last completed cycle. -/
  | queryTruck (i : SlotIx) (t : Truck) (cycle : Nat)
  | queryQueue (k : SecIx) (state : FState) (onWire cap : Nat) (entries : List EntryView) (cycle : Nat)
  | attend (a : Option Alert) (pending unmasked : Nat)
  | ackAlert (kind : AlertKind) (sec : Option SecIx) (returned : Bool) (pending unmasked : Nat)
  | maskSection (k : SecIx) (mask : Bool) (pending unmasked : Nat)
  | selfCheck (ref badRun count fill slots : Nat) (rate : LinkRate) (busTrip : Bool) (cycle : Nat)
  deriving DecidableEq, Repr

/-- A reply: the request's tag and kind byte, and its data (R195, R202). -/
structure Reply where
  tag : Byte
  kind : Byte
  data : ReplyData
  deriving DecidableEq, Repr

/-- An inbound slot in use: one request together with its reply (R193). -/
structure InSlot where
  request : Instr
  reply : Reply
  deriving DecidableEq, Repr

/-- The transmitter (R198). A reply in transmission is that of the oldest inbound slot. -/
inductive Tx where
  | idle
  | reply
  /-- A notice in transmission; `void` when a RESTART has been taken since its sending started (R201). -/
  | notice (n : Notice) (void : Bool)
  deriving DecidableEq, Repr

/-- The Control Link (R190 to R201). -/
structure Link where
  rx : Rx
  /-- The inbound slots in use, oldest first. -/
  inbound : List InSlot
  /-- The notice queue, head first (R199). -/
  notices : List Notice
  tx : Tx
  rate : LinkRate
  deriving DecidableEq, Repr

/-! ### The part -/

/-- Everything the part holds. -/
structure State where
  /-- The free-running time base, in milliseconds. -/
  now : Nat
  limits : Limits
  secs : Vector Sec 6
  /-- The test source owner (R162). -/
  source : Option SecIx
  /-- The test wait list, head first (R162). -/
  waitList : List SecIx
  busTrip : Bool
  roster : Vector Slot 16
  /-- The sensor-seen mark of each gap (R64, R79). -/
  seen : Vector (Option SlotIx) 5
  cycleNo : Nat
  cycle : Option Cycle
  /-- Good scan results that wait for a budget cycle, in order of their scans (R102). -/
  bgeScans : List ScanResult
  /-- Published good scan results not yet taken by Feeder Protection. -/
  fprScans : List ScanResult
  /-- Published good scan results not yet taken by the Feeder Sequencer. -/
  fsqScans : List ScanResult
  smp : Sampler
  ifl : InputFilter
  alt : AlertList
  link : Link
  /-- The commands that wait, first in first out. -/
  pending : List Instr
  deriving DecidableEq, Repr

/-- The block stops at no fault: its manual names none, and every command it describes has an effect. -/
inductive Fault where
  deriving DecidableEq, Repr

/-- Why a command is refused. -/
inductive Refusal where
  /-- No meaning yet; raised by an arm of exec alone. Safe. No arm raises it. -/
  | notModelled (mnemonic : String)
  /-- The term is no frame the link can hand on: an unknown-kind request whose kind byte names a request. Raised by
  execUnknownKindRequest alone. Safe: no such command exists. -/
  | namedKind
  deriving DecidableEq, Repr

/-! ### Reset -/

/-- The feeder record of every section after reset (R180). -/
def Feeder.reset : Feeder where
  phase := .unset
  cause := .reset
  openConfirm := none
  tripCount := 0
  tripWindow := none

/-- The protection record of every section after reset (R143). -/
def Prot.reset : Prot where
  feederCurrent := 0
  feedVoltage := 0
  farVoltage := 0
  lastScan := none
  heat := 0
  sag := Config.sagFull
  lastDraw := 0
  highRun := 0
  lowRun := 0
  unaccounted := false
  deduction := 0
  fixedLoad := 0

/-- The budget record of a section as R127 starts it. The cycle number of the ceiling is DESIGN CHOICE 0
(notes/assumptions/4.md). -/
def SecBudget.reset : SecBudget where
  ceiling := 0
  ceilingCycle := 0
  pointer := 0
  livePeriod := 0

/-- A section after reset: UNSET, with no settings and no queue (R14, R98). -/
def Sec.reset : Sec where
  settings := none
  feeder := .reset
  prot := .reset
  budget := .reset
  queue := []

/-- The Sampler after reset (R129). -/
def Sampler.reset : Sampler where
  mode := .off
  period := 100
  timer := none
  inFlight := none
  dtBase := none
  last := none
  badRun := 0
  count := 0

/-- A discrete input's filter after reset: empty stages, open or inactive (R142). -/
def Filter.reset : Filter where
  older := none
  newer := none
  value := false

/-- The Input Filter after reset (R142). -/
def InputFilter.reset : InputFilter where
  breakers := Vector.replicate 6 .reset
  gaps := Vector.replicate 5 .reset
  stop := .reset
  timer := Config.filterPeriod
  handed := []

/-- The Alert List after reset (R188). -/
def AlertList.reset : AlertList where
  pending := []
  attended := none
  masks := Vector.replicate 6 false

/-- The Control Link after reset (R204), at the rate of open straps: DESIGN CHOICE (notes/assumptions/3.md). -/
def Link.reset : Link where
  rx := .hunting
  inbound := []
  notices := []
  tx := .idle
  rate := .r115200

/-- The part right after reset. The time base starts at 0: DESIGN CHOICE (notes/assumptions/3.md). -/
def State.reset : State where
  now := 0
  limits := .default
  secs := Vector.replicate 6 .reset
  source := none
  waitList := []
  busTrip := false
  roster := Vector.replicate 16 .free
  seen := Vector.replicate 5 none
  cycleNo := 0
  cycle := none
  bgeScans := []
  fprScans := []
  fsqScans := []
  smp := .reset
  ifl := .reset
  alt := .reset
  link := .reset
  pending := []

end Sys2Proof.Machine
end

