-- ==== Sys2Proof/Machine/Ops.lean ====
section
/-! DEFINITION. The named operations every meaning is built from: reading and writing sections and truck records, the
notice queue and the transmitter, alerts, grants with their notices, and the passage of time. -/

namespace Sys2Proof.Machine

/-! ### Tables -/

/-- A function applied to every entry of a table. -/
def mapVec {α β : Type} {n : Nat} (f : α → β) (v : Vector α n) : Vector β n :=
  Vector.ofFn fun i => f v[i]

/-- The roster slots, lowest first. -/
def allSlots : List SlotIx := List.finRange 16

/-- The sections, S1 first. -/
def allSecs : List SecIx := List.finRange 6

/-- An operation taken for each slot in turn, lowest first, each on the state the one before has left. -/
def State.eachSlot (f : SlotIx → State → State) (s : State) : State :=
  allSlots.foldl (fun s i => f i s) s

/-- An operation taken for each section in turn, S1 first. -/
def State.eachSec (f : SecIx → State → State) (s : State) : State :=
  allSecs.foldl (fun s k => f k s) s

/-! ### Sections and truck records -/

/-- The section records with one of them changed. -/
def State.modSec (s : State) (k : SecIx) (f : Sec → Sec) : State :=
  { s with secs := s.secs.set k (f s.secs[k]) }

/-- A section's feeder record changed. -/
def State.modFeeder (s : State) (k : SecIx) (f : Feeder → Feeder) : State :=
  s.modSec k fun x => { x with feeder := f x.feeder }

/-- A section's protection record changed. -/
def State.modProt (s : State) (k : SecIx) (f : Prot → Prot) : State :=
  s.modSec k fun x => { x with prot := f x.prot }

/-- A section's budget record changed. -/
def State.modBudget (s : State) (k : SecIx) (f : SecBudget → SecBudget) : State :=
  s.modSec k fun x => { x with budget := f x.budget }

/-- A section's admission queue changed. -/
def State.modQueue (s : State) (k : SecIx) (f : List QEntry → List QEntry) : State :=
  s.modSec k fun x => { x with queue := f x.queue }

/-- The feeder phase of a section. -/
def State.phase (s : State) (k : SecIx) : Phase := s.secs[k].feeder.phase

/-- The section is LIVE. -/
def State.isLive (s : State) (k : SecIx) : Bool := decide (s.phase k = .live)

/-- The record in a slot, if the slot is occupied (R16). -/
def State.truck? (s : State) (i : SlotIx) : Option Truck :=
  match s.roster[i] with
  | .occupied t => some t
  | .free | .releasePending => none

/-- A slot's content replaced. -/
def State.setSlot (s : State) (i : SlotIx) (x : Slot) : State :=
  { s with roster := s.roster.set i x }

/-- The record in a slot changed; nothing where the slot holds none. -/
def State.modTruck (s : State) (i : SlotIx) (f : Truck → Truck) : State :=
  match s.truck? i with
  | some t => s.setSlot i (.occupied (f t))
  | none => s

/-- A truck's contact state replaced. -/
def State.setContact (s : State) (i : SlotIx) (c : Contact) : State :=
  s.modTruck i fun t => { t with contact := c }

/-- A truck's section replaced. -/
def State.setSec (s : State) (i : SlotIx) (k : Option SecIx) : State :=
  s.modTruck i fun t => { t with sec := k }

/-- The slot whose record holds a tag. -/
def State.slotOf (s : State) (tag : Nat) : Option SlotIx :=
  allSlots.find? fun i => match s.truck? i with | some t => decide (t.tag = tag) | none => false

/-- The sum of a quantity over all truck records. -/
def State.sumTrucks (s : State) (f : Truck → Nat) : Nat :=
  (allSlots.map fun i => match s.truck? i with | some t => f t | none => 0).sum

/-- The contact states of the on-wire set (R42). -/
def Contact.onWireSet : Contact → Bool
  | .cleared _ | .onWire | .shedding _ _ | .crossing _ => true
  | .enrolled | .waiting | .held _ _ | .lowering _ => false

/-- The contact states in which a truck draws or returns current: ON-WIRE, SHEDDING and CROSSING. -/
def Contact.drawing : Contact → Bool
  | .onWire | .shedding _ _ | .crossing _ => true
  | .enrolled | .waiting | .cleared _ | .held _ _ | .lowering _ => false

/-- The contact states in which a truck's reported current is metered and accounted for (R32, R152). -/
def Contact.metered : Contact → Bool
  | .onWire | .shedding _ _ | .crossing _ | .lowering _ => true
  | .enrolled | .waiting | .cleared _ | .held _ _ => false

/-- SHEDDING or CROSSING. -/
def Contact.passing : Contact → Bool
  | .shedding _ _ | .crossing _ => true
  | .enrolled | .waiting | .cleared _ | .onWire | .held _ _ | .lowering _ => false

/-- The on-wire count of a section, found afresh (R42). -/
def State.onWireCount (s : State) (k : SecIx) : Nat :=
  s.sumTrucks fun t => if t.sec = some k ∧ t.contact.onWireSet then 1 else 0

/-- Round up to a multiple of 10 A. -/
def roundUp10 (n : Nat) : Nat := (n + 9) / 10 * 10

/-! ### Notices (R199) -/

/-- Two notices of the same kind and key, so that the newer takes the older's place. RELEASED is always appended. -/
def Notice.sameKey : Notice → Notice → Bool
  | .grant i _ _ _ _, .grant j _ _ _ _ => decide (i = j)
  | .order i _ _ _, .order j _ _ _ => decide (i = j)
  | .sec k _ _ _, .sec l _ _ _ => decide (k = l)
  | _, _ => false

/-- The notice queue after a notice is queued (R199). -/
def enqueue (n : Notice) (q : List Notice) : List Notice :=
  if q.any n.sameKey then q.map fun m => if n.sameKey m then n else m else q ++ [n]

/-- A notice queued. -/
def State.queueNotice (s : State) (n : Notice) : State :=
  { s with link := { s.link with notices := enqueue n s.link.notices } }

/-- An ORDER notice for a truck, with the cycle number current (R62). -/
def State.queueOrder (s : State) (i : SlotIx) (o : Order) : State :=
  match s.truck? i with
  | some t => s.queueNotice (.order i t.tag o s.cycleNo)
  | none => s

/-- A GRANT notice for a truck, telling its grant as it stands, under a given cycle number (R199). -/
def State.queueGrant (s : State) (i : SlotIx) (cycle : Nat) : State :=
  match s.truck? i with
  | some t => s.queueNotice (.grant i t.tag t.grant t.dir cycle)
  | none => s

/-- A SECTION notice for a section as it stands (R160). -/
def State.queueSection (s : State) (k : SecIx) : State :=
  s.queueNotice (.sec k (s.phase k).state s.secs[k].feeder.cause s.cycleNo)

/-- A truck's grant written without a notice. -/
def State.putGrant (s : State) (i : SlotIx) (g : Nat) : State :=
  s.modTruck i fun t => { t with grant := g }

/-- A truck's grant set between cycles: a GRANT notice is queued if it changed. -/
def State.setGrant (s : State) (i : SlotIx) (g : Nat) : State :=
  match s.truck? i with
  | some t => if t.grant = g then s else (s.putGrant i g).queueGrant i s.cycleNo
  | none => s

/-- The transmitter, when idle, starts the oldest reply, or else the head notice (R198). Every command ends with this:
notices of one command are all queued, and its reply stored, before an idle transmitter chooses (notes/assumptions/8.md). -/
def State.kick (s : State) : State :=
  match s.link.tx with
  | .idle =>
    match s.link.inbound, s.link.notices with
    | _ :: _, _ => { s with link := { s.link with tx := .reply } }
    | [], n :: q => { s with link := { s.link with tx := .notice n false, notices := q } }
    | [], [] => s
  | .reply | .notice _ _ => s

/-! ### Alerts (R183) -/

/-- The alert records that carry a truck tag (R181). -/
def AlertKind.tagged : AlertKind → Bool
  | .gapOverrun | .contactStuck | .contactFault => true
  | .stop | .measureFault | .breakerStuck | .lineFault | .unexpectedBridge | .trip | .lockout | .unaccountedDraw
  | .sag => false

/-- An alert record is of a kind and section. -/
def Alert.isFor (a : Alert) (kind : AlertKind) (k : Option SecIx) : Bool :=
  decide (a.kind = kind ∧ a.sec = k)

/-- The Alert List after an alert is raised (R183). -/
def AlertList.raise (l : AlertList) (kind : AlertKind) (k : Option SecIx) (tag : Option Nat) (cycle : Nat) :
    AlertList :=
  let tag := if kind.tagged then tag else none
  match l.attended with
  | some a =>
    if a.isFor kind k then { l with attended := some { a with recur := some (cycle, tag) } }
    else if l.pending.any fun p => p.isFor kind k then l
    else { l with pending := l.pending ++ [⟨kind, k, cycle, tag, none⟩] }
  | none =>
    if l.pending.any fun p => p.isFor kind k then l
    else { l with pending := l.pending ++ [⟨kind, k, cycle, tag, none⟩] }

/-- An alert raised for a section, or for section 0 where `k` is none, with the cycle number current. -/
def State.raiseAlert (s : State) (kind : AlertKind) (k : Option SecIx) (tag : Option Nat) : State :=
  { s with alt := s.alt.raise kind k tag s.cycleNo }

/-! ### Return pool (R118) -/

/-- The draw sum of a section: the reported currents of its climbing trucks in ON-WIRE, SHEDDING or CROSSING (R115). -/
def State.drawSum (s : State) (k : SecIx) : Nat :=
  s.sumTrucks fun t => if t.sec = some k ∧ t.dir = .climb ∧ t.contact.drawing then t.current else 0

/-- The sum of the grants of a section's trucks of one direction. -/
def State.grantSum (s : State) (k : SecIx) (d : Dir) : Nat :=
  s.sumTrucks fun t => if t.sec = some k ∧ t.dir = d then t.grant else 0

/-- The trim pool P′ of a section (R118). -/
def State.trimPool (s : State) (k : SecIx) : Nat :=
  match s.secs[k].settings with
  | some c => min c.returnCeiling (s.drawSum k) / 10 * 10
  | none => 0

/-- Grants of the trucks that satisfy `p` reduced by an excess, one truck at a time from the highest slot down, each by
what is still to be removed or to 0 (R118, R121). `write` is how a reduced grant is written. -/
def State.cutGrants (write : State → SlotIx → Nat → State) (p : Truck → Bool) (excess : Nat) (s : State) : State :=
  (allSlots.reverse.foldl (fun (x : State × Nat) i =>
    match x.1.truck? i with
    | some t => if p t then (write x.1 i (t.grant - min t.grant x.2), x.2 - min t.grant x.2) else x
    | none => x) (s, excess)).1

/-- A descending truck of a section. -/
def Truck.descendsIn (t : Truck) (k : SecIx) : Bool := decide (t.sec = some k ∧ t.dir = .descend)

/-- The return trim of a LIVE section (R118); a section out of LIVE has no return pool (R171). -/
def State.trim (s : State) (k : SecIx) : State :=
  if s.isLive k then
    s.cutGrants State.setGrant (fun t => t.descendsIn k) (s.grantSum k .descend - s.trimPool k)
  else s

/-- The return trim of every section whose draw sum has fallen from one state to the next (R118). -/
def State.trimFalls (before after : State) : State :=
  after.eachSec fun k s => if after.drawSum k < before.drawSum k then s.trim k else s

/-- An operation followed by the return trims of the draw sums it has lowered. -/
def State.trimming (f : State → State) (s : State) : State := State.trimFalls s (f s)

/-! ### The passage of time -/

/-- What is left of a duration after some milliseconds; it stays at 0 until its expiry is taken. -/
def left (d : Option Nat) (ms : Nat) : Option Nat := d.map (· - ms)

/-- A feeder phase after some milliseconds. -/
def Phase.elapse (ms : Nat) : Phase → Phase
  | .testing a r at' t => .testing a r at' (t - ms)
  | .precharge since w => .precharge since (w - ms)
  | .closing w => .closing (w - ms)
  | .tripped r th => .tripped (left r ms) th
  | p => p

/-- A section after some milliseconds. -/
def Sec.elapse (ms : Nat) (x : Sec) : Sec :=
  { x with feeder := { x.feeder with
      phase := x.feeder.phase.elapse ms
      openConfirm := left x.feeder.openConfirm ms
      tripWindow := left x.feeder.tripWindow ms } }

/-- A contact state after some milliseconds. -/
def Contact.elapse (ms : Nat) : Contact → Contact
  | .cleared w => .cleared (w - ms)
  | .shedding g d => .shedding g (d - ms)
  | .lowering w => .lowering (left w ms)
  | c => c

/-- A truck record after some milliseconds: its age rises, saturating (R26), and its durations run down. -/
def Truck.elapse (ms : Nat) (t : Truck) : Truck :=
  { t with
    age := min (t.age + ms) Config.maxAge
    decayTimer := t.decayTimer - ms
    bar := left t.bar ms
    contact := t.contact.elapse ms }

/-- A roster slot after some milliseconds. -/
def Slot.elapse (ms : Nat) : Slot → Slot
  | .occupied t => .occupied (t.elapse ms)
  | .free => .free
  | .releasePending => .releasePending

/-- The part after some milliseconds in which nothing is taken: the time base rises, ages rise, and every running
duration runs down to 0, where it waits for its expiry to be taken. -/
def State.elapse (ms : Nat) (s : State) : State :=
  { s with
    now := s.now + ms
    secs := mapVec (Sec.elapse ms) s.secs
    roster := mapVec (Slot.elapse ms) s.roster
    smp := { s.smp with timer := left s.smp.timer ms }
    ifl := { s.ifl with timer := s.ifl.timer - ms } }

end Sys2Proof.Machine
end

