-- ==== Sys2Proof/Machine/Flags.lean ====
section
/-! DEFINITION. The outputs of the part, whose levels follow from what the blocks hold: MAIN-CLOSE, PRECHARGE-CLOSE and
TEST-ENABLE of each section (table of R159), BUS-TRIP (R170), ALERT (R187) and READY (R194); and the discrete inputs as
every block reads them, by their filtered values (R139). -/

namespace Sys2Proof.Machine

/-- MAIN-CLOSE by feeder state (R159). -/
def Phase.mainClose : Phase → Bool
  | .closing _ | .live => true
  | _ => false

/-- PRECHARGE-CLOSE by feeder state (R159). -/
def Phase.prechargeClose : Phase → Bool
  | .precharge _ _ | .closing _ => true
  | _ => false

/-- TEST-ENABLE by feeder state (R159). -/
def Phase.testEnable : Phase → Bool
  | .testing _ _ _ _ => true
  | _ => false

/-- The level of a section's MAIN-CLOSE output. -/
def State.mainClose (s : State) (k : SecIx) : Bool := (s.phase k).mainClose

/-- The level of a section's PRECHARGE-CLOSE output. -/
def State.prechargeClose (s : State) (k : SecIx) : Bool := (s.phase k).prechargeClose

/-- The level of a section's TEST-ENABLE output. -/
def State.testEnable (s : State) (k : SecIx) : Bool := (s.phase k).testEnable

/-- The level of the BUS-TRIP output (R170). -/
def State.busTripOut (s : State) : Bool := s.busTrip

/-- An alert's section is masked; section 0 never is (R186). -/
def AlertList.masked (l : AlertList) (a : Alert) : Bool :=
  match a.sec with
  | some k => l.masks[k]
  | none => false

/-- The pending alerts whose sections are not masked. -/
def AlertList.unmasked (l : AlertList) : List Alert := l.pending.filter fun a => !l.masked a

/-- The level of the ALERT output (R187). -/
def State.alertOut (s : State) : Bool := !s.alt.unmasked.isEmpty

/-- The level of the READY output: an inbound slot is empty (R194). -/
def State.ready (s : State) : Bool := decide (s.link.inbound.length < Config.inboundSlots)

/-- The breaker feedback of a section as filtered: true is closed. -/
def State.feedbackClosed (s : State) (k : SecIx) : Bool := s.ifl.breakers[k].value

/-- STOP is active, as filtered. -/
def State.stopActive (s : State) : Bool := s.ifl.stop.value

end Sys2Proof.Machine
end

