-- ==== Sys2Proof/WellFormed.lean ====
section
/-! DEFINITION. Which commands stand for something the part can meet. A request comes in a complete frame, whose body is
2 to 60 bytes long (R191, R192). The kind of an unknown-kind request names no request of R202 (R195). Every other operand
is bounded by its type. -/

namespace Sys2Proof

/-- The kind bytes that name a request (R202). -/
def requestKinds : List Byte :=
  [0x01, 0x02, 0x03, 0x04, 0x11, 0x12, 0x13, 0x20, 0x21, 0x22, 0x23, 0x30, 0x31, 0x32, 0x50, 0x51, 0x52, 0x60, 0x61]

/-- The body length is one a complete frame can have (R191). -/
def ReqHdr.inFrame (h : ReqHdr) : Bool :=
  decide (Config.minBody ≤ h.bodyLen) && decide (h.bodyLen ≤ Config.maxBody)

/-- The request header of a command, where it is a request. -/
def Instr.hdr? : Instr → Option ReqHdr
  | .configureSection h _ | .setLimits h _ | .setCadence h _ _ | .scan h | .energize h _ _ | .deEnergize h _
  | .clearLockout h _ | .enrol h _ | .report h _ | .raise h _ | .depart h _ | .querySection h _ | .queryTruck h _
  | .queryQueue h _ | .attend h | .ackAlert h | .maskSection h _ _ | .selfCheck h | .restart h
  | .unknownKindRequest h _ => some h
  | .frameDiscarded _ | .frameBufferFull | .linkInterByteTimeout _ | .transmitFrameEnd | .reset _ _
  | .cadenceTimerExpiry | .scanCompletion _ | .fprScanEvaluation | .fsqScanEvaluation | .budgetCycleInputs
  | .budgetCyclePublication | .breakerFeedbackClosed _ | .breakerFeedbackOpen _ | .gapSensorActivation _
  | .gapSensorDeactivation _ | .stopActivation | .stopRelease | .raiseWindowExpiry _ | .lowerWindowExpiry _
  | .shedDeadlineExpiry _ | .stalePointPassed _ | .staleLower _ | .idleRelease _ | .arcTallyDecay _
  | .raiseBarExpiry _ | .testTimeout _ | .prechargeWindowExpiry _ | .closeConfirmExpiry _
  | .openConfirmationExpiry _ | .recloseTimerExpiry _ | .tripWindowExpiry _ | .inputFilterSampling _ => none

/-- The command spells a request frame or an event that can occur. -/
def Instr.wellFormed (i : Instr) : Bool :=
  (match i.hdr? with | some h => h.inFrame | none => true) &&
  (match i with | .unknownKindRequest _ k => !requestKinds.contains k | _ => true)

end Sys2Proof
end

