-- ==== Sys2Proof/Machine/Operands.lean ====
section
/-! DEFINITION. How a command's operands are read: the request header and the inbound buffer (R193, R195), section numbers
and named codes (R202), the fields of a report as recorded (R19), settings and limits with their ranges (R5, R6, R10), and
the channels of a scan (R130). -/

namespace Sys2Proof.Machine

/-- The outcome of a command that takes a next state: an idle transmitter then starts a frame (R198). -/
def done (s : State) : Host.Outcome State Fault Refusal := .next s.kick

/-- A frame has ended or has been discarded: the receiver hunts for a sync byte again (R192). -/
def State.hunt (s : State) : State := { s with link := { s.link with rx := .hunting } }

/-- A reply stored with its request in an inbound slot (R193). -/
def State.store (s : State) (i : Instr) (tag kind : Byte) (d : ReplyData) : State :=
  { s with link := { s.link with inbound := s.link.inbound ++ [⟨i, ⟨tag, kind, d⟩⟩] } }

/-- A request's frame offered to the part: discarded where its length is no frame's (R192) or no inbound slot is empty
(R193); otherwise it takes a slot, is given the first checks of R195, and is acted on by its owner. `len` is the body
length of its kind. -/
def takeRequest (i : Instr) (h : ReqHdr) (kind : Byte) (len : Nat) (own : State → State × ReplyData) (s : State) :
    Host.Outcome State Fault Refusal :=
  if h.inFrame ∧ s.ready then
    if h.tag = 0 ∨ h.bodyLen ≠ len then done (s.hunt.store i h.tag kind (.reject .malformed 0))
    else
      let r := own s.hunt
      done (r.1.store i h.tag kind r.2)
  else done s.hunt

/-- A refusal, which changes nothing (R195). -/
def refuse (s : State) (why : Reason) : State × ReplyData := (s, .reject why 0)

/-- A section number 1 to 6 (R202). -/
def secOf (b : Byte) : Option SecIx :=
  if h : 1 ≤ b.toNat ∧ b.toNat ≤ 6 then some ⟨b.toNat - 1, by omega⟩ else none

/-- A class code (R202). -/
def classOf (b : Byte) : Option TruckClass :=
  match b.toNat with
  | 0 => some .loaded
  | 1 => some .empty
  | 2 => some .service
  | _ => none

/-- A direction code (R202). -/
def dirOf (b : Byte) : Option Dir :=
  match b.toNat with
  | 0 => some .climb
  | 1 => some .descend
  | _ => none

/-- A pantograph code (R202). -/
def pantoOf (b : Byte) : Option Panto :=
  match b.toNat with
  | 0 => some .down
  | 1 => some .up
  | _ => none

/-- A yes/no or on/off code (R202). -/
def boolOf (b : Byte) : Option Bool :=
  match b.toNat with
  | 0 => some false
  | 1 => some true
  | _ => none

/-- A cadence mode code (R202). -/
def cadenceOf (b : Byte) : Option Cadence :=
  match b.toNat with
  | 0 => some .off
  | 1 => some .periodic
  | 2 => some .single
  | _ => none

/-- A number lies in a range and on its step. -/
def inRange (lo hi step n : Nat) : Bool := decide (lo ≤ n ∧ n ≤ hi ∧ n % step = 0)

/-- The settings a CONFIGURE-SECTION request carries. -/
def settingsOf (x : ConfigFields) : Settings where
  lower := x.lower.toNat
  upper := x.upper.toNat
  feed := x.feed.toNat
  f := x.f.toNat
  fp := x.fp.toNat
  trip := x.trip.toNat
  heatLimit := x.heatLimit.toNat
  r := x.r.toNat
  cap := x.cap.toNat
  returnCeiling := x.returnCeiling.toNat
  reclose := x.reclose.toNat

/-- The range check of a section's settings (table of R5, R6). -/
def Settings.inRange (c : Settings) : Bool :=
  Machine.inRange 0 8190 1 c.lower
  && Machine.inRange (c.lower + 100) (min (c.lower + 2000) Config.maxPosition) 1 c.upper
  && Machine.inRange c.lower c.upper 1 c.feed
  && Machine.inRange 500 6000 10 c.f
  && Machine.inRange c.f (min (2 * c.f) 9000) 10 c.fp
  && Machine.inRange (c.fp + 10) 10000 10 c.trip
  && Machine.inRange 1000000 2000000000 1 c.heatLimit
  && Machine.inRange 5 200 1 c.r
  && Machine.inRange 1 8 1 c.cap
  && Machine.inRange 0 3000 10 c.returnCeiling
  && Machine.inRange 0 30 1 c.reclose

/-- The limits a SET-LIMITS request carries. -/
def limitsOf (x : LimitFields) : Limits where
  vMin := x.vMin.toNat
  vMax := x.vMax.toNat
  c := x.c.toNat
  z := x.z.toNat
  e := x.e.toNat
  shedDeadline := x.shedDeadline.toNat
  raiseWindow := x.raiseWindow.toNat
  lowerWindow := x.lowerWindow.toNat
  staleLimit := x.staleLimit.toNat
  slew := x.slew.toNat
  unaccounted := x.unaccounted.toNat
  patienceLoaded := x.patienceLoaded.toNat
  patienceEmpty := x.patienceEmpty.toNat
  patienceService := x.patienceService.toNat
  arcLimit := x.arcLimit.toNat
  barTime := x.barTime.toNat

/-- The range check of the global limits (table of R10). -/
def Limits.inRange (l : Limits) : Bool :=
  Machine.inRange 1500 2600 10 l.vMin
  && Machine.inRange 2700 3400 10 l.vMax
  && decide (l.vMin + 200 ≤ l.vMax)
  && Machine.inRange 0 300 10 l.c
  && Machine.inRange 10 200 1 l.z
  && Machine.inRange 2 50 1 l.e
  && Machine.inRange 200 5000 100 l.shedDeadline
  && Machine.inRange 1000 10000 100 l.raiseWindow
  && Machine.inRange 1000 10000 100 l.lowerWindow
  && Machine.inRange 500 10000 100 l.staleLimit
  && Machine.inRange 10 3000 10 l.slew
  && Machine.inRange 100 2000 10 l.unaccounted
  && Machine.inRange 0 255 1 l.patienceLoaded
  && Machine.inRange 0 255 1 l.patienceEmpty
  && Machine.inRange 0 255 1 l.patienceService
  && Machine.inRange 2 32 1 l.arcLimit
  && Machine.inRange 10 600 1 l.barTime

/-- A position as recorded (R19). -/
def clampPosition (n : Nat) : Nat := min n Config.maxPosition

/-- A speed as recorded (R19). -/
def clampSpeed (n : Nat) : Nat := min n Config.maxSpeed

/-- A reported current as recorded (R19). -/
def clampCurrent (n : Nat) : Nat := min n Config.maxCurrent

/-- A demand as recorded: rounded up to a multiple of 10, then clamped (R19). -/
def recordDemand (n : Nat) : Nat := min (roundUp10 n) Config.maxCurrent

/-- The arc increment between two contact-loss counts (R22). -/
def arcIncrement (last new : Nat) : Nat := min ((new + 256 - last) % 256) Config.arcClamp

/-! ### The channels of a scan (R130) -/

/-- The code of a channel. -/
def ScanResult.code (r : ScanResult) (ch : Fin 22) : Nat := r.codes[ch].toNat

/-- The bus voltage, channel 1. -/
def ScanResult.bus (r : ScanResult) : Nat := r.code 1

/-- The test source voltage code, channel 2. -/
def ScanResult.testVoltage (r : ScanResult) : Nat := r.code 2

/-- The test source current code, channel 3. -/
def ScanResult.testCurrent (r : ScanResult) : Nat := r.code 3

/-- The feeder current of a section, in amperes. -/
def ScanResult.feederCurrent (r : ScanResult) (k : SecIx) : Nat := r.code ⟨4 + 3 * k.val, by omega⟩ * 5 / 2

/-- The feed-point voltage of a section. -/
def ScanResult.feedVoltage (r : ScanResult) (k : SecIx) : Nat := r.code ⟨5 + 3 * k.val, by omega⟩

/-- The far-end voltage of a section. -/
def ScanResult.farVoltage (r : ScanResult) (k : SecIx) : Nat := r.code ⟨6 + 3 * k.val, by omega⟩

/-- The Δt of a good scan, 0 where a result carries none. -/
def ScanResult.delta (r : ScanResult) : Nat := r.dt.getD 0

/-- The resistance reading of an integrity test (R163). -/
def ScanResult.ohms (r : ScanResult) : Nat :=
  if r.testCurrent = 0 then Config.maxOhms else min (10 * r.testVoltage / r.testCurrent) Config.maxOhms

end Sys2Proof.Machine
end

