-- ==== Sys2Proof/Machine/Alerts.lean ====
section
/-! DEFINITION. The commands of the Alert List: ATTEND (R184), ACK_ALERT (R185) and MASK_SECTION (R186). -/

namespace Sys2Proof.Machine

/-- The rank of an alert kind, 0 the highest (R181). -/
def AlertKind.rank : AlertKind → Nat
  | .stop => 0
  | .measureFault => 1
  | .breakerStuck => 2
  | .lineFault => 3
  | .gapOverrun => 4
  | .contactStuck => 5
  | .unexpectedBridge => 6
  | .trip => 7
  | .lockout => 8
  | .unaccountedDraw => 9
  | .sag => 10
  | .contactFault => 11

/-- The number of an alert's section, 0 for the whole part (R181). -/
def secNumber (k : Option SecIx) : Nat :=
  match k with
  | some k => k.val + 1
  | none => 0

/-- An alert goes before another: the higher rank, then the lower section number (R184). -/
def Alert.before (a b : Alert) : Bool :=
  decide (a.kind.rank < b.kind.rank ∨ (a.kind = b.kind ∧ secNumber a.sec < secNumber b.sec))

/-- The best alert of a list (R184). -/
def bestAlert (l : List Alert) : Option Alert :=
  l.foldl (fun best a =>
    match best with
    | none => some a
    | some b => if a.before b then some a else some b) none

/-- The number of pending alerts and of those whose sections are not masked. -/
def AlertList.counts (l : AlertList) : Nat × Nat := (l.pending.length, l.unmasked.length)

/-- The Alert List after an ATTEND (R184). -/
def AlertList.attend (l : AlertList) : AlertList :=
  match l.attended with
  | some _ => l
  | none =>
    match bestAlert l.unmasked with
    | some a => { l with attended := some a, pending := l.pending.erase a }
    | none => l

/-- The effect of ATTEND (R184). -/
def State.attendAlert (s : State) : State × ReplyData :=
  let l := s.alt.attend
  ({ s with alt := l }, .attend l.attended l.counts.1 l.counts.2)

/-- ATTEND (R184). -/
def execAttend (h : ReqHdr) (s : State) : Host.Outcome State Fault Refusal :=
  takeRequest (.attend h) h 0x50 2 (fun s => s.attendAlert) s

/-- The pending record a recurred alert returns as (R185). -/
def Alert.returned (a : Alert) : Option Alert :=
  a.recur.map fun r => { a with cycle := r.1, tag := r.2, recur := none }

/-- The effect of ACK-ALERT (R185). -/
def State.ackAlert (s : State) : State × ReplyData :=
  match s.alt.attended with
  | none => refuse s .state
  | some a =>
    let l := { s.alt with attended := none, pending := s.alt.pending ++ a.returned.toList }
    ({ s with alt := l }, .ackAlert a.kind a.sec a.recur.isSome l.counts.1 l.counts.2)

/-- ACK_ALERT (R185). -/
def execAckAlert (h : ReqHdr) (s : State) : Host.Outcome State Fault Refusal :=
  takeRequest (.ackAlert h) h 0x51 2 (fun s => s.ackAlert) s

/-- The effect of MASK-SECTION (R186). -/
def State.maskSection (s : State) (sec setting : Byte) : State × ReplyData :=
  match secOf sec, boolOf setting with
  | some k, some on =>
    let l := { s.alt with masks := s.alt.masks.set k on }
    ({ s with alt := l }, .maskSection k on l.counts.1 l.counts.2)
  | _, _ => refuse s .range

/-- MASK_SECTION (R186). -/
def execMaskSection (h : ReqHdr) (sec setting : Byte) (s : State) : Host.Outcome State Fault Refusal :=
  takeRequest (.maskSection h sec setting) h 0x52 4 (fun s => s.maskSection sec setting) s

end Sys2Proof.Machine
end

