-- ==== Sys2Proof/Machine/Geometry.lean ====
section
/-! DEFINITION. Positions, sections, gaps and zones (R2, R3, R4). -/

namespace Sys2Proof.Machine

/-- A section is configured (R2). -/
def State.configured (s : State) (k : SecIx) : Bool := s.secs[k].settings.isSome

/-- n, the number of configured sections. -/
def State.confCount (s : State) : Nat := (allSecs.filter s.configured).length

/-- The upper bound of the highest configured section, if any is configured. -/
def State.topEnd (s : State) : Option Nat :=
  (allSecs.filterMap fun k => s.secs[k].settings).getLast?.map (·.upper)

/-- The lower bound of S1, if it is configured. -/
def State.bottomEnd (s : State) : Option Nat := s.secs[(0 : SecIx)].settings.map (·.lower)

/-- The section of a position (R2). -/
def State.sectionOf (s : State) (p : Nat) : Option SecIx :=
  allSecs.find? fun k =>
    match s.secs[k].settings with
    | some c => decide (c.lower ≤ p ∧ p < c.upper)
    | none => false

/-- The section below a gap. -/
def below (g : GapIx) : SecIx := g.castSucc

/-- The section above a gap. -/
def above (g : GapIx) : SecIx := g.succ

/-- The gap exists: both sections beside it are configured (R3). -/
def State.gapExists (s : State) (g : GapIx) : Bool := s.configured (below g) && s.configured (above g)

/-- The position of a gap, the upper bound of the section below it (R3). -/
def State.gapPos (s : State) (g : GapIx) : Nat :=
  match s.secs[below g].settings with
  | some c => c.upper
  | none => 0

/-- The gap at the end of a section towards which a direction leads; none at a wire end (R4). -/
def State.gapAhead (s : State) (k : SecIx) : Dir → Option GapIx
  | .climb =>
    if h : k.val < 5 then
      if s.configured ⟨k.val + 1, by omega⟩ then some ⟨k.val, h⟩ else none
    else none
  | .descend => if h : 0 < k.val then some ⟨k.val - 1, by omega⟩ else none

/-- The zone of concern of a truck and whether the truck is inside it (R4). -/
def State.zoneOf (s : State) (t : Truck) : Zone × Bool :=
  match t.sec with
  | none => (.none, false)
  | some k =>
    match s.secs[k].settings with
    | none => (.none, false)
    | some c =>
      let zone := match s.gapAhead k t.dir, t.dir with
        | some g, _ => Zone.approach g
        | none, .climb => .topEnd
        | none, .descend => .bottomEnd
      let inSection := decide (c.lower ≤ t.est ∧ t.est < c.upper)
      let near := match t.dir with
        | .climb => decide (c.upper ≤ t.est + s.limits.z)
        | .descend => decide (c.lower < t.est ∧ t.est ≤ c.lower + s.limits.z)
      (zone, inSection && near)

/-- The zone flags of a truck found again (R4, R64). -/
def State.setFlags (s : State) (i : SlotIx) : State :=
  s.modTruck i fun t => { t with zone := (s.zoneOf t).1, inside := (s.zoneOf t).2 }

/-- The sections beside a section's upper (`up`) or lower boundary: both sections of the gap there, or the one section
at a wire end, lower section first (R75). -/
def State.boundarySecs (s : State) (k : SecIx) (up : Bool) : List SecIx :=
  match s.gapAhead k (if up then .climb else .descend) with
  | some g => [below g, above g]
  | none => [k]

/-- The distance between two positions. -/
def dist (a b : Nat) : Nat := (a - b) + (b - a)

end Sys2Proof.Machine
end

