-- ==== Sys2Proof/Machine/Contacts.lean ====
section
/-! DEFINITION. The transitions of a truck's contact state that many commands share: release (R35), entry into ENROLLED,
the lowering order (R52), the start of shedding (R65), clearance (R46), restore (R60, R61) and hold (R58), with the moves
between admission queues (R93). Each leaves the state as it is where the slot holds no record. -/

namespace Sys2Proof.Machine

/-! ### Release -/

/-- The cycle in progress no longer knows a slot's record (R31, R120): the record is new or has been removed. -/
def State.forget (s : State) (i : SlotIx) : State :=
  { s with cycle := s.cycle.map fun c => { c with trucks := c.trucks.set i none } }

/-- What has happened to a slot's record since the cycle in progress took its inputs, noted with it. -/
def State.note (s : State) (i : SlotIx) (f : TruckIn → TruckIn) : State :=
  { s with cycle := s.cycle.map fun c => { c with trucks := c.trucks.set i (c.trucks[i].map f) } }

/-- A slot's entry removed from every admission queue; those behind it close up (R95). -/
def State.dropEntry (s : State) (i : SlotIx) : State :=
  s.eachSec fun k s => s.modQueue k fun q => q.filter fun e => decide (e.slot ≠ i)

/-- A truck released (R35): the RELEASED notice is queued, the record goes, the slot is release pending. A sensor-seen
mark that names the slot is cleared (R79). -/
def State.release (s : State) (i : SlotIx) : State :=
  match s.truck? i with
  | none => s
  | some t =>
    let s := s.queueNotice (.released i t.tag t.drawMeter t.drawWraps t.retMeter t.retWraps s.cycleNo)
    let s := (s.setSlot i .releasePending).forget i
    { s with seen := mapVec (fun m => if m = some i then none else m) s.seen }

/-- An enrolled truck lies beyond a wire end by more than the release distance, in its direction (R34). -/
def State.beyondEnds (s : State) (t : Truck) : Bool :=
  match t.dir with
  | .climb => match s.topEnd with
    | some u => decide (u + Config.releaseDistance < t.est)
    | none => false
  | .descend => match s.bottomEnd with
    | some l => decide (t.est + Config.releaseDistance < l)
    | none => false

/-- The release checks at an entry into ENROLLED or WAITING, and of R34 at a change of estimate (R29, R34). -/
def State.releaseChecks (s : State) (i : SlotIx) : State :=
  match s.truck? i with
  | none => s
  | some t =>
    match t.contact with
    | .enrolled => if Config.idleAge ≤ t.age ∨ s.beyondEnds t then s.release i else s
    | .waiting => if Config.idleAge ≤ t.age then (s.dropEntry i).release i else s
    | _ => s

/-- The release check of R34 alone. -/
def State.positionRelease (s : State) (i : SlotIx) : State :=
  match s.truck? i with
  | none => s
  | some t => if t.contact = .enrolled ∧ s.beyondEnds t then s.release i else s

/-- Entry into ENROLLED: grant 0 (R41), the order the rule gives, then the release checks (R43, R47, R48). -/
def State.enterEnrolled (s : State) (i : SlotIx) (o : Option Order) : State :=
  let s := (s.setContact i .enrolled).setGrant i 0
  let s := match o with
    | some o => s.queueOrder i o
    | none => s
  s.releaseChecks i

/-! ### Lowering, shedding, clearance -/

/-- A lowering order (R52). The truck leaves an admission queue it waits in; every other timer and context goes with the
state that held it. A truck already LOWERING is ordered nothing. -/
def State.lower (s : State) (i : SlotIx) (why : LowerReason) : State :=
  match s.truck? i with
  | none => s
  | some t =>
    match t.contact with
    | .lowering _ => s
    | _ =>
      let s := s.dropEntry i
      let s := (s.setContact i (.lowering (some s.limits.lowerWindow))).setGrant i 0
      s.queueOrder i (.lower why s.limits.lowerWindow)

/-- The check of R28 at an entry into CLEARED, ON-WIRE, SHEDDING or CROSSING. -/
def State.staleCheck (s : State) (i : SlotIx) : State :=
  match s.truck? i with
  | none => s
  | some t => if t.contact.onWireSet ∧ 3 * t.stalePoint ≤ t.age then s.lower i .stale else s

/-- The start of shedding before a gap (R65, R66): the grant is cut to C and ORDER SHED goes out. -/
def State.startShedding (s : State) (i : SlotIx) (g : GapIx) : State :=
  match s.truck? i with
  | none => s
  | some t =>
    let s := (s.setContact i (.shedding g s.limits.shedDeadline)).setGrant i (min t.grant s.limits.c)
    (s.queueOrder i (.shed s.limits.shedDeadline s.limits.c)).staleCheck i

/-- The zone flags found again, and what an ON-WIRE truck does inside its zone: shed before a gap (R65), lower at a wire
end (R50). -/
def State.zoneAct (s : State) (i : SlotIx) : State :=
  let s := s.setFlags i
  match s.truck? i with
  | none => s
  | some t =>
    if t.contact = .onWire ∧ t.inside then
      match t.zone with
      | .approach g => s.startShedding i g
      | .topEnd | .bottomEnd => s.lower i .atEnd
      | .none => s
    else s

/-- Entry into CLEARED from ENROLLED or WAITING (R46). -/
def State.clearToRaise (s : State) (i : SlotIx) : State :=
  let s := (s.setContact i (.cleared s.limits.raiseWindow)).setGrant i 0
  (s.queueOrder i (.clearToRaise s.limits.raiseWindow)).staleCheck i

/-! ### Holding and restoring -/

/-- The contact state a held truck is restored to (table of R60), by its zone at the restore. -/
def State.restoredContact (s : State) (t : Truck) (p : Prior) : Contact :=
  match p with
  | .onWire => .onWire
  | .cleared => match t.panto with
    | .up => .onWire
    | .down => .cleared s.limits.raiseWindow
  | .shedding | .crossing =>
    match s.zoneOf t with
    | (.approach g, true) => .shedding g s.limits.shedDeadline
    | _ => .onWire

/-- A HELD truck restored (R60, R61): ORDER RESUME, the first-cycle cap, then the zone and the stale check. A descending truck
restored to ON-WIRE exactly at lower_k is outside its zone; that it overruns there (R84) is found at its next step 1 of R64,
which a restore does not take (DESIGN CHOICE, notes/assumptions/26.md). -/
def State.restore (s : State) (i : SlotIx) : State :=
  match s.truck? i with
  | none => s
  | some t =>
    match t.contact with
    | .held p g =>
      let c := s.restoredContact t p
      let s := s.modTruck i fun t => { t with contact := c, firstCap := some g }
      let s := (s.queueOrder i (.resume c.state g)).note i fun n => { n with restored := true }
      (s.zoneAct i).staleCheck i
    | _ => s

/-- A HELD truck's section changes (R59, R78): it is restored at once where the new section is LIVE. -/
def State.heldMove (s : State) (i : SlotIx) (k : Option SecIx) : State :=
  let s := (s.setSec i k).setFlags i
  match k with
  | some k => if s.isLive k then s.restore i else s
  | none => s

/-- The prior state of a hold, for a truck that is held (R58). -/
def Contact.prior : Contact → Option Prior
  | .cleared _ => some .cleared
  | .onWire => some .onWire
  | .shedding _ _ => some .shedding
  | .crossing _ => some .crossing
  | .enrolled | .waiting | .held _ _ | .lowering _ => none

/-- A truck held (R58). A truck held while CROSSING takes the section R2 gives for its estimate. -/
def State.hold (s : State) (i : SlotIx) : State :=
  match s.truck? i with
  | none => s
  | some t =>
    match t.contact.prior with
    | none => s
    | some p =>
      let s := (s.setContact i (.held p t.grant)).setGrant i 0
      let s := s.queueOrder i .hold
      if p = .crossing ∧ s.sectionOf t.est ≠ t.sec then s.heldMove i (s.sectionOf t.est) else s

/-- The trucks of a section that leaves LIVE are held, in slot order (R58). -/
def State.holdSection (s : State) (k : SecIx) : State :=
  s.eachSlot fun i s =>
    match s.truck? i with
    | some t => if t.sec = some k then s.hold i else s
    | none => s

/-- The HELD trucks of a section that becomes LIVE are restored, in slot order (R60). -/
def State.restoreSection (s : State) (k : SecIx) : State :=
  s.eachSlot fun i s =>
    match s.truck? i with
    | some t => if t.sec = some k then s.restore i else s
    | none => s

/-! ### Admission queues -/

/-- The patience of a class, in budget cycles (R88). -/
def Limits.patience (l : Limits) : TruckClass → Nat
  | .loaded => l.patienceLoaded
  | .empty => l.patienceEmpty
  | .service => l.patienceService

/-- A fresh queue entry of a truck (R88, R94). -/
def Limits.entry (l : Limits) (i : SlotIx) (c : TruckClass) : QEntry :=
  { slot := i, countdown := l.patience c, urgent := decide (l.patience c = 0) }

/-- The queue entry of a slot, wherever it stands. -/
def State.entry? (s : State) (i : SlotIx) : Option QEntry :=
  (allSecs.flatMap fun k => s.secs[k].queue).find? fun e => decide (e.slot = i)

/-- The section of a WAITING truck changes (R93): its entry moves to the tail of the new section's queue, or the truck is
cancelled to ENROLLED. -/
def State.queueMove (s : State) (i : SlotIx) (k : Option SecIx) : State :=
  let e := s.entry? i
  let s := (s.dropEntry i).setSec i k
  match k, e with
  | some k, some e =>
    if s.secs[k].queue.length < Config.queueSize then s.modQueue k (· ++ [e])
    else s.enterEnrolled i (some .raiseCancelled)
  | _, _ => s.enterEnrolled i (some .raiseCancelled)

/-- A WAITING truck re-queued on a change of direction (R94). -/
def State.requeue (s : State) (i : SlotIx) : State :=
  match s.truck? i with
  | none => s
  | some t =>
    match t.contact, t.sec with
    | .waiting, some k => (s.dropEntry i).modQueue k (· ++ [s.limits.entry i t.cls])
    | _, _ => s

end Sys2Proof.Machine
end

