-- ==== Sys2Proof/Machine/Crossing.lean ====
section
/-! DEFINITION. What the Gap Monitor does with a truck whose estimate or section has changed, in the order of R64: the
position checks (R75 to R78, with R48 and R93 for trucks that only lose or change a section), the transfer check (R72) and
the zone (R65, R50). -/

namespace Sys2Proof.Machine

/-- GAP-OVERRUN raised with a truck's tag for the sections beside a boundary (R75 to R77, R81). -/
def State.raiseOverrun (s : State) (tag : Nat) (ks : List SecIx) : State :=
  ks.foldl (fun s k => s.raiseAlert .gapOverrun (some k) (some tag)) s

/-- An overrun at a boundary (R75, R76): the truck is ordered LOWER (OVERRUN), the alert is raised for the sections beside
the boundary, and the truck's section then follows its estimate. -/
def State.overrun (s : State) (i : SlotIx) (ks : List SecIx) : State :=
  match s.truck? i with
  | none => s
  | some t =>
    let s := (s.lower i .overrun).raiseOverrun t.tag ks
    s.setSec i (s.sectionOf t.est)

/-- The truck's estimate reaches or passes the boundary of its section in its direction of travel (R75, R84). -/
def reachesBoundary (c : Settings) (d : Dir) (est : Nat) : Bool :=
  match d with
  | .climb => decide (c.upper ≤ est)
  | .descend => decide (est ≤ c.lower)

/-- The truck's estimate lies beyond its section in its direction of travel, so that R2 no longer gives that section. -/
def beyondSection (c : Settings) (d : Dir) (est : Nat) : Bool :=
  match d with
  | .climb => decide (c.upper ≤ est)
  | .descend => decide (est < c.lower)

/-- A LOWERING truck's section changes (R77): the boundary it crossed, from the section it leaves, or from the wire end it
comes back over. `oldEst` is the estimate before the change. -/
def State.crossedSecs (s : State) (t : Truck) (oldEst : Nat) (new : Option SecIx) : List SecIx :=
  match t.sec with
  | some k =>
    match s.secs[k].settings with
    | some c => s.boundarySecs k (decide (c.upper ≤ t.est))
    | none => [k]
  | none =>
    match s.topEnd with
    | some u =>
      if u ≤ oldEst then ((allSecs.filter s.configured).getLast?).toList
      else if s.configured 0 then [0] else new.toList
    | none => new.toList

/-- A truck's section changes other than by a transfer or an overrun in its direction: what each contact state gives.
`alerts` is false for a change made by CONFIGURE-SECTION, which crosses no gap (R77). -/
def State.sectionChange (s : State) (i : SlotIx) (oldEst : Nat) (alerts : Bool) (new : Option SecIx) : State :=
  match s.truck? i with
  | none => s
  | some t =>
    match t.contact with
    | .enrolled => s.setSec i new
    | .waiting => s.queueMove i new
    | .cleared _ => (s.setSec i new).enterEnrolled i (some .raiseCancelled)
    | .held _ _ => s.heldMove i new
    | .lowering _ =>
      let arcing := alerts && decide (t.panto = .up) && decide (s.limits.c < t.current)
      (if arcing then s.raiseOverrun t.tag (s.crossedSecs t oldEst new) else s).setSec i new
    | .onWire | .shedding _ _ | .crossing _ =>
      match t.sec with
      | some k =>
        match s.secs[k].settings with
        | some c => s.overrun i (s.boundarySecs k (decide (c.upper ≤ t.est)))
        | none => s.setSec i new
      | none => s.setSec i new

/-- Step 1 of R64: overruns and unplanned changes of section. A CROSSING truck keeps its section while its estimate lies
beyond its crossing gap (R70). -/
def State.positionCheck (s : State) (i : SlotIx) (oldEst : Nat) (alerts : Bool) : State :=
  match s.truck? i with
  | none => s
  | some t =>
    let new := s.sectionOf t.est
    let changed := if new = t.sec then s else s.sectionChange i oldEst alerts new
    match t.sec.bind fun k => s.secs[k].settings.map fun c => (k, c) with
    | none => changed
    | some (k, c) =>
      match t.contact with
      | .onWire | .shedding _ _ =>
        if reachesBoundary c t.dir t.est then s.overrun i (s.boundarySecs k (decide (t.dir = .climb))) else changed
      | .crossing _ => if beyondSection c t.dir t.est then s else changed
      | .enrolled | .waiting | .cleared _ | .held _ _ | .lowering _ => changed

/-- A CROSSING truck's estimate is at its transfer point or beyond (R71). -/
def State.transferDue (s : State) (t : Truck) (g : GapIx) : Bool :=
  match t.dir with
  | .climb => decide (s.gapPos g + s.limits.e ≤ t.est)
  | .descend => decide (t.est + s.limits.e ≤ s.gapPos g)

/-- The section across a crossing gap in a direction (R71). -/
def across (g : GapIx) : Dir → SecIx
  | .climb => above g
  | .descend => below g

/-- The transfer of a CROSSING truck across its gap (R73): grant 0, the return trim of the section it leaves, the new
section, ON-WIRE or HELD there, and then its position and zone in the new section. A cycle in progress notes a transfer into
ON-WIRE. -/
def State.transfer (s : State) (i : SlotIx) : State :=
  match s.truck? i with
  | none => s
  | some t =>
    match t.contact with
    | .crossing g =>
      let k := across g t.dir
      let live := s.isLive k
      let s1 := s.setGrant i 0
      let s2 := s1.modTruck i fun t => { t with sec := some k, contact := if live then .onWire else .held .onWire 0 }
      let s3 := (State.trimFalls s1 s2).note i fun n => { n with transferred := n.transferred || live }
      let s4 := if live then s3.staleCheck i else s3.queueOrder i .hold
      (s4.positionCheck i t.est true).zoneAct i
    | _ => s

/-- Step 2 of R64: the transfer check of a CROSSING truck (R72). -/
def State.transferCheck (s : State) (i : SlotIx) : State :=
  match s.truck? i with
  | none => s
  | some t =>
    match t.contact with
    | .crossing g => if s.transferDue t g then s.transfer i else s
    | _ => s

/-- The three steps of R64 after a change of a truck's estimate, section or direction. -/
def State.gapSteps (s : State) (i : SlotIx) (oldEst : Nat) : State :=
  ((s.positionCheck i oldEst true).transferCheck i).zoneAct i

/-- A SHEDDING truck's reported current is taken as a confirmation (R67). -/
def State.confirm (s : State) (i : SlotIx) : State :=
  match s.truck? i with
  | none => s
  | some t =>
    match t.contact with
    | .shedding g _ => if t.current ≤ s.limits.c then (s.setContact i (.crossing g)).staleCheck i else s
    | _ => s

end Sys2Proof.Machine
end

