-- ==== Sys2Proof/Machine/Roster.lean ====
section
/-! DEFINITION. The truck requests: ENROL (R17, R18), REPORT (R19 to R23, R43), RAISE (R44, R45, R87), DEPART (R33),
QUERY_TRUCK (R37) and QUERY_QUEUE (R97). -/

namespace Sys2Proof.Machine

/-! ### ENROL -/

/-- The record ENROL creates (R18), its section and zone still to be found. -/
def newTruck (l : Limits) (x : EnrolFields) (c : TruckClass) (d : Dir) : Truck where
  tag := x.truck.toNat
  cls := c
  dir := d
  sec := none
  reported := clampPosition x.position.toNat
  est := clampPosition x.position.toNat
  rem := 0
  speed := clampSpeed x.speed.toNat
  panto := .down
  current := 0
  demand := 0
  lastCount := none
  arc := 0
  decayTimer := Config.arcDecay
  bar := none
  age := 0
  stalePoint := l.staleLimit
  stale := false
  contact := .enrolled
  grant := 0
  firstCap := none
  drawMeter := 0
  drawWraps := 0
  retMeter := 0
  retWraps := 0
  zone := .none
  inside := false

/-- The lowest-numbered free slot (R18). -/
def State.freeSlot (s : State) : Option SlotIx := allSlots.find? fun i => decide (s.roster[i] = .free)

/-- The effect of ENROL: the four checks of R17 in their order, then R18. -/
def State.enrol (s : State) (x : EnrolFields) : State × ReplyData :=
  if x.truck.toNat = 0 ∨ x.truck.toNat = 65535 then refuse s .range
  else
    match classOf x.cls, dirOf x.dir with
    | some c, some d =>
      if (s.slotOf x.truck.toNat).isSome then refuse s .duplicate
      else
        match s.freeSlot with
        | none => refuse s .full
        | some i =>
          match s.topEnd with
          | none => refuse s .geometry
          | some u =>
            let t := newTruck s.limits x c d
            if u ≤ t.est then refuse s .geometry
            else
              let s := (s.setSlot i (.occupied { t with sec := s.sectionOf t.est })).forget i
              ((s.setFlags i).positionRelease i, .slot i)
    | _, _ => refuse s .range

/-- ENROL (R17, R18). -/
def execEnrol (h : ReqHdr) (x : EnrolFields) (s : State) : Host.Outcome State Fault Refusal :=
  takeRequest (.enrol h x) h 0x20 9 (fun s => s.enrol x) s

/-! ### REPORT -/

/-- The record after an accepted REPORT, before its contact effects (R19, R20, R21, R22). -/
def Truck.record (t : Truck) (l : Limits) (x : ReportFields) (c : TruckClass) (d : Dir) (p : Panto) : Truck :=
  let inc := match t.lastCount with
    | some n => arcIncrement n x.count.toNat
    | none => 0
  { t with
    cls := c
    dir := d
    reported := clampPosition x.position.toNat
    est := clampPosition x.position.toNat
    rem := 0
    speed := clampSpeed x.speed.toNat
    panto := p
    current := clampCurrent x.current.toNat
    demand := recordDemand x.demand.toNat
    lastCount := some x.count.toNat
    arc := min (t.arc + inc) Config.arcMax
    age := 0
    stalePoint := l.staleLimit
    stale := false }

/-- A truck's section found again by R2 and its zone flags with it, without any other consequence. -/
def State.refind (s : State) (i : SlotIx) : State :=
  match s.truck? i with
  | none => s
  | some t => (s.setSec i (s.sectionOf t.est)).setFlags i

/-- A raise completes (R49): the zone decides the new state. A descending truck exactly at lower_k is outside its zone and so
enters ON-WIRE, as R49 says; that an ON-WIRE truck there overruns (R84) is found at its next step 1 of R64, which a raise
does not take (DESIGN CHOICE, notes/assumptions/26.md). -/
def State.completeRaise (s : State) (i : SlotIx) : State :=
  let s := s.setFlags i
  match s.truck? i with
  | none => s
  | some t =>
    if t.inside then
      match t.zone with
      | .approach g =>
        if t.current ≤ s.limits.c then (s.setContact i (.crossing g)).staleCheck i else s.startShedding i g
      | .topEnd | .bottomEnd => s.lower i .atEnd
      | .none => s
    else (s.setContact i .onWire).staleCheck i

/-- The contact effects of a REPORT with pantograph DOWN (table of R43); `turned` when its direction is new. -/
def State.reportDown (s : State) (i : SlotIx) (turned : Bool) (oldEst : Nat) (c : Contact) : State :=
  match c with
  | .enrolled => s.gapSteps i oldEst
  | .waiting =>
    let s := s.gapSteps i oldEst
    if turned then s.requeue i else s
  | .cleared _ => (if turned then s.lower i .direction else s).gapSteps i oldEst
  | .onWire | .shedding _ _ | .crossing _ | .held _ _ | .lowering _ => (s.enterEnrolled i none).gapSteps i oldEst

/-- The contact effects of a REPORT with pantograph UP and a new direction (R43, R56, R57): the Contact Supervisor acts
first, and the steps of R64 then apply to the state it leaves. -/
def State.reportTurned (s : State) (i : SlotIx) (oldEst : Nat) (c : Contact) : State :=
  match c with
  | .enrolled | .waiting => (s.lower i .uncleared).gapSteps i oldEst
  | .cleared _ | .onWire | .shedding _ _ | .crossing _ | .held _ _ => (s.lower i .direction).gapSteps i oldEst
  | .lowering _ => s.gapSteps i oldEst

/-- The contact effects of a REPORT with pantograph UP and its direction unchanged (R43, R49, R56, R64, R67). -/
def State.reportUp (s : State) (i : SlotIx) (oldEst : Nat) (oldSec : Option SecIx) (c : Contact) : State :=
  match c with
  | .enrolled | .waiting => (s.refind i).lower i .uncleared
  | .cleared _ =>
    let s := s.refind i
    match s.truck? i with
    | none => s
    | some t => if t.sec = oldSec then s.completeRaise i else s.lower i .uncleared
  | .onWire | .shedding _ _ | .crossing _ | .held _ _ => (s.gapSteps i oldEst).confirm i
  | .lowering _ => s.gapSteps i oldEst

/-- The contact effects of an accepted REPORT on the record before it, `old` (R43). -/
def State.contactEffects (s : State) (i : SlotIx) (old : Truck) (d : Dir) (p : Panto) : State :=
  let turned := decide (d ≠ old.dir)
  match p with
  | .down => s.reportDown i turned old.est old.contact
  | .up => if turned then s.reportTurned i old.est old.contact else s.reportUp i old.est old.sec old.contact

/-- The demand cut (R21). -/
def State.demandCut (s : State) (i : SlotIx) : State :=
  match s.truck? i with
  | some t => if t.demand < t.grant then s.setGrant i t.demand else s
  | none => s

/-- The limit check of the arc tally after a rise from `old` (R23). -/
def State.arcCheck (s : State) (i : SlotIx) (old : Nat) : State :=
  match s.truck? i with
  | none => s
  | some t =>
    if old < t.arc ∧ s.limits.arcLimit ≤ t.arc ∧ t.contact.onWireSet then
      let s := s.lower i .contact
      let s := s.modTruck i fun t => { t with bar := some (1000 * s.limits.barTime) }
      s.raiseAlert .contactFault t.sec (some t.tag)
    else s

/-- The effect of REPORT (R19 to R23, R43). -/
def State.report (s : State) (x : ReportFields) : State × ReplyData :=
  match s.slotOf x.truck.toNat with
  | none => refuse s .unknownTruck
  | some i =>
    match s.truck? i, classOf x.cls, dirOf x.dir, pantoOf x.panto with
    | some old, some c, some d, some p =>
      let s1 := (s.modTruck i fun t => t.record s.limits x c d p).note i fun n => { n with reported := true }
      let s2 := State.trimFalls s (s1.contactEffects i old d p)
      let s3 := State.trimming (fun s => s.arcCheck i old.arc) (s2.demandCut i)
      let s4 := s3.positionRelease i
      match s4.truck? i with
      | some t => (s4, .report i t.contact.state t.grant)
      | none => (s4, .report i .enrolled 0)
    | _, _, _, _ => refuse s .range

/-- REPORT (R19 to R23, R43). -/
def execReport (h : ReqHdr) (x : ReportFields) (s : State) : Host.Outcome State Fault Refusal :=
  takeRequest (.report h x) h 0x21 15 (fun s => s.report x) s

/-! ### RAISE and DEPART -/

/-- The admission decision (R45, R87, R88). -/
def State.admission (s : State) (i : SlotIx) (t : Truck) (k : SecIx) : State × ReplyData :=
  let cap := match s.secs[k].settings with
    | some c => c.cap
    | none => 0
  if s.isLive k ∧ s.onWireCount k < cap ∧ s.secs[k].queue = [] then (s.clearToRaise i, .raise i true)
  else if s.secs[k].queue.length < Config.queueSize then
    (((s.setContact i .waiting).modQueue k (· ++ [s.limits.entry i t.cls])).releaseChecks i, .raise i false)
  else refuse s .queueFull

/-- The effect of RAISE: the checks of R44 in their order, then the admission decision. -/
def State.raiseTruck (s : State) (tag : Nat) : State × ReplyData :=
  match s.slotOf tag with
  | none => refuse s .unknownTruck
  | some i =>
    match s.truck? i with
    | none => refuse s .unknownTruck
    | some t =>
      if t.contact ≠ .enrolled then refuse s .state
      else
        match t.bar, t.sec with
        | some ms, _ => (s, .reject .barred ((ms + 999) / 1000))
        | none, none => refuse s .position
        | none, some k => if t.inside then refuse s .position else s.admission i t k

/-- RAISE (R44, R45, R87, R88). -/
def execRaise (h : ReqHdr) (truck : Half) (s : State) : Host.Outcome State Fault Refusal :=
  takeRequest (.raise h truck) h 0x22 4 (fun s => s.raiseTruck truck.toNat) s

/-- The effect of DEPART (R33). -/
def State.depart (s : State) (tag : Nat) : State × ReplyData :=
  match s.slotOf tag with
  | none => refuse s .unknownTruck
  | some i =>
    match s.truck? i with
    | none => refuse s .unknownTruck
    | some t =>
      if t.contact = .enrolled ∨ t.contact = .waiting then ((s.dropEntry i).release i, .slot i) else refuse s .state

/-- DEPART (R33). -/
def execDepart (h : ReqHdr) (truck : Half) (s : State) : Host.Outcome State Fault Refusal :=
  takeRequest (.depart h truck) h 0x23 4 (fun s => s.depart truck.toNat) s

/-! ### Queries -/

/-- The reply to QUERY-TRUCK (R37). -/
def State.truckView (s : State) (tag : Nat) : State × ReplyData :=
  match s.slotOf tag with
  | none => refuse s .unknownTruck
  | some i =>
    match s.truck? i with
    | none => refuse s .unknownTruck
    | some t => (s, .queryTruck i t s.cycleNo)

/-- QUERY_TRUCK (R37). -/
def execQueryTruck (h : ReqHdr) (truck : Half) (s : State) : Host.Outcome State Fault Refusal :=
  takeRequest (.queryTruck h truck) h 0x31 4 (fun s => s.truckView truck.toNat) s

/-- A queue entry is eligible for selection (R90). -/
def State.eligible (s : State) (e : QEntry) : Bool :=
  match s.truck? e.slot with
  | some t => t.bar.isNone && !t.inside
  | none => false

/-- A queue entry as QUERY-QUEUE shows it (R97). -/
def State.entryView (s : State) (e : QEntry) : Option EntryView :=
  (s.truck? e.slot).map fun t => ⟨e.slot, t.tag, t.cls, t.dir, e.countdown, e.urgent, s.eligible e⟩

/-- The reply to QUERY-QUEUE (R97). -/
def State.queueView (s : State) (sec : Byte) : State × ReplyData :=
  match secOf sec with
  | none => refuse s .range
  | some k =>
    let cap := match s.secs[k].settings with
      | some c => c.cap
      | none => 0
    (s, .queryQueue k (s.phase k).state (s.onWireCount k) cap (s.secs[k].queue.filterMap s.entryView) s.cycleNo)

/-- QUERY_QUEUE (R97). -/
def execQueryQueue (h : ReqHdr) (sec : Byte) (s : State) : Host.Outcome State Fault Refusal :=
  takeRequest (.queryQueue h sec) h 0x32 3 (fun s => s.queueView sec) s

end Sys2Proof.Machine
end

