-- ==== Sys2Proof/Machine/Inputs.lean ====
section
/-! DEFINITION. The Input Filter (R139 to R142): INPUT_FILTER_SAMPLING, and how an owner takes a filtered change. -/

namespace Sys2Proof.Machine

/-- One sample of one input (R140): the stages shift, and two equal levels that differ from the filtered value replace
it. -/
def Filter.sample (f : Filter) (level : Bool) : Filter where
  older := f.newer
  newer := some level
  value := if f.newer = some level then level else f.value

/-- The change of a filtered value from one filter to the next, if it changed. -/
def changed (old new : Filter) (c : Bool → Change) : List Change :=
  if old.value = new.value then [] else [c new.value]

/-- One sample of all twelve inputs: stages, filtered values, and the changes handed over, breakers first (R140, R141). -/
def InputFilter.sample (x : InputFilter) (l : InputLevels) : InputFilter :=
  let breakers := Vector.ofFn fun k : SecIx => x.breakers[k].sample l.breakers[k]
  let gaps := Vector.ofFn fun g : GapIx => x.gaps[g].sample l.gaps[g]
  let stop := x.stop.sample l.stop
  let changes :=
    (allSecs.flatMap fun k => changed x.breakers[k] breakers[k] (.breaker k))
    ++ ((List.finRange 5).flatMap fun g => changed x.gaps[g] gaps[g] (.gap g))
    ++ changed x.stop stop .stop
  { breakers, gaps, stop, timer := Config.filterPeriod, handed := x.handed ++ changes }

/-- What is left of a duration passes, so that its expiry falls due (notes/assumptions/6.md). -/
def State.lapse (s : State) (d : Nat) : State := s.elapse d

/-- INPUT_FILTER_SAMPLING (R140): taken when the sampling period has run out. -/
def execInputFilterSampling (l : InputLevels) (s : State) : Host.Outcome State Fault Refusal :=
  let s := s.lapse s.ifl.timer
  done { s with ifl := s.ifl.sample l }

/-- The filtered value an input has once a change of it is taken. -/
def InputFilter.put (x : InputFilter) : Change → InputFilter
  | .breaker k v => { x with breakers := x.breakers.set k { x.breakers[k] with value := v } }
  | .gap g v => { x with gaps := x.gaps.set g { x.gaps[g] with value := v } }
  | .stop v => { x with stop := { x.stop with value := v } }

/-- An owner takes a filtered change (R141). A change handed over by the filter is taken off its list; one that no sample
has handed over is itself what changes the filtered value (notes/assumptions/7.md). -/
def State.takeChange (s : State) (c : Change) : State :=
  if c ∈ s.ifl.handed then { s with ifl := { s.ifl with handed := s.ifl.handed.erase c } }
  else { s with ifl := s.ifl.put c }

end Sys2Proof.Machine
end

