-- ==== Sys2Proof/Machine/Sampler.lean ====
section
/-! DEFINITION. The Sampler (R129 to R138): SET_CADENCE, SCAN, CADENCE_TIMER_EXPIRY and SCAN_COMPLETION, with the
measurement-fault cut of R126. -/

namespace Sys2Proof.Machine

/-- A wrapping 16-bit count raised by 1 (R125, R129). -/
def next16 (n : Nat) : Nat := (n + 1) % Config.wrap16

/-- The effect of SET-CADENCE (R136). -/
def State.setCadence (s : State) (mode : Byte) (period : Nat) : State × ReplyData :=
  match cadenceOf mode with
  | none => refuse s .range
  | some m =>
    if ¬ inRange 20 500 10 period then refuse s .range
    else
      let base := if s.smp.mode = .off ∧ m ≠ .off then none else s.smp.dtBase
      let timer := if m = .periodic then some period else none
      ({ s with smp := { s.smp with mode := m, period := period, dtBase := base, timer := timer } }, .cadence m period)

/-- SET_CADENCE (R136). -/
def execSetCadence (h : ReqHdr) (mode : Byte) (period : Half) (s : State) : Host.Outcome State Fault Refusal :=
  takeRequest (.setCadence h mode period) h 0x03 5 (fun s => s.setCadence mode period.toNat) s

/-- A scan triggered (R131): its sampling instant is the time of the trigger. -/
def State.trigger (s : State) : State := { s with smp := { s.smp with inFlight := some s.now } }

/-- The effect of SCAN (R137). -/
def State.scanOnce (s : State) : State × ReplyData :=
  if s.smp.mode ≠ .single then refuse s .state
  else if s.smp.inFlight.isSome then refuse s .busy
  else (s.trigger, .scanCount (next16 s.smp.count))

/-- SCAN (R137). -/
def execScan (h : ReqHdr) (s : State) : Host.Outcome State Fault Refusal :=
  takeRequest (.scan h) h 0x04 2 (fun s => s.scanOnce) s

/-- CADENCE_TIMER_EXPIRY (R135): a scan is triggered and the next expiry set one period later. -/
def execCadenceTimerExpiry (s : State) : Host.Outcome State Fault Refusal :=
  match s.smp.timer with
  | some w =>
    let s := (s.lapse w).trigger
    done { s with smp := { s.smp with timer := some s.smp.period } }
  | none => done s

/-- Δt of a good scan (R133). -/
def deltaOf (base : Option Nat) (instant : Nat) : Nat :=
  match base with
  | some b => min ((instant - b) / 10 * 10) Config.dtCap
  | none => 0

/-- The verdict of a scan (R132). -/
def goodScan (codes : Vector (BitVec 12) 22) : Bool :=
  decide (Config.refLow ≤ codes[(0 : Fin 22)].toNat ∧ codes[(0 : Fin 22)].toNat ≤ Config.refHigh)

/-- The Sampler after a completion (R131, R133, R134), and the result it publishes. -/
def Sampler.complete (x : Sampler) (instant : Nat) (codes : Vector (BitVec 12) 22) : Sampler × ScanResult :=
  let good := goodScan codes
  let r : ScanResult :=
    { number := next16 x.count, instant := instant, good := good, codes := codes
      dt := if good then some (deltaOf x.dtBase instant) else none }
  ({ x with
      inFlight := none
      dtBase := if good then some instant else x.dtBase
      last := some r
      badRun := if good then 0 else min (x.badRun + 1) Config.max16
      count := next16 x.count }, r)

/-- The measurement-fault cut (R126): every grant set to 0 in order of slot, and a cycle in progress discarded (R119). -/
def State.faultCut (s : State) : State :=
  let s := s.eachSlot fun i s => s.setGrant i 0
  { s with cycle := s.cycle.map fun c => { c with discard := true } }

/-- A good result published to its three takers (R131). A bad one starts nothing (R102, R144). -/
def State.publish (s : State) (r : ScanResult) : State :=
  if r.good then
    { s with fprScans := s.fprScans ++ [r], fsqScans := s.fsqScans ++ [r], bgeScans := s.bgeScans ++ [r] }
  else s

/-- The measurement fault, at the scan that brings the bad-scan run to 3 and at no other (R134). -/
def State.faultAt (s : State) (before : Nat) : State :=
  if s.smp.badRun = Config.badScanLimit ∧ before ≠ Config.badScanLimit then
    (s.raiseAlert .measureFault none none).faultCut
  else s

/-- SCAN_COMPLETION (R131). Nothing where no scan is in flight. -/
def execScanCompletion (codes : Vector (BitVec 12) 22) (s : State) : Host.Outcome State Fault Refusal :=
  match s.smp.inFlight with
  | none => done s
  | some t =>
    let x := s.smp.complete t codes
    done (({ s with smp := x.1 }.faultAt s.smp.badRun).publish x.2)

end Sys2Proof.Machine
end

