-- ==== Sys2Proof/Machine/Budget.lean ====
section
/-! DEFINITION. The Budget Engine (R100 to R128): BUDGET_CYCLE_INPUTS, which takes the inputs and computes (R103 to R117),
and BUDGET_CYCLE_PUBLICATION, which publishes (R119 to R123) and ends the cycle (R124) with dead reckoning (R30, R31),
metering (R32), countdowns (R89) and queue service (R91). -/

namespace Sys2Proof.Machine

/-! ### Sharing quanta (R110 to R113) -/

/-- A truck's claim in a division: its slot, its demand in quanta (with the first-cycle cap, R109) and its grant. -/
structure Claim where
  slot : SlotIx
  d : Nat
  grant : Nat
  deriving DecidableEq, Repr

/-- The sum of the demands of some claims, Dc. -/
def totalDemand (cs : List Claim) : Nat := (cs.map (·.d)).sum

/-- The share of a claim before the left-over quanta (R111). -/
def Claim.share (c : Claim) (q dc : Nat) : Nat := q * c.d / dc

/-- The remainder of a claim (R111). -/
def Claim.rem (c : Claim) (q dc : Nat) : Nat := q * c.d % dc

/-- The place of a slot counted upward from the rotation pointer, wrapping from 15 to 0 (R112). -/
def tieOrder (ptr slot : SlotIx) : Nat := (slot.val + 16 - ptr.val) % 16

/-- A claim goes before another in the order of R112: the larger remainder first, then from the rotation pointer. -/
def Claim.before (q dc : Nat) (ptr : SlotIx) (a b : Claim) : Bool :=
  decide (b.rem q dc < a.rem q dc ∨ (a.rem q dc = b.rem q dc ∧ tieOrder ptr a.slot < tieOrder ptr b.slot))

/-- The quanta left over by the shares, L (R111). -/
def leftOver (q : Nat) (cs : List Claim) : Nat :=
  q - (cs.map fun c => c.share q (totalDemand cs)).sum

/-- A claim's target in a proportional division (R111, R112). -/
def splitTarget (q : Nat) (ptr : SlotIx) (cs : List Claim) (c : Claim) : Nat :=
  let dc := totalDemand cs
  c.share q dc + if (cs.filter fun x => x.before q dc ptr c).length < leftOver q cs then 1 else 0

/-- One class's targets, in quanta: its demands where they fit, else a proportional division (R110, R116). -/
def shareOut (q : Nat) (ptr : SlotIx) (cs : List Claim) : List (Claim × Nat) :=
  if totalDemand cs ≤ q then cs.map fun c => (c, c.d) else cs.map fun c => (c, splitTarget q ptr cs c)

/-- A class's division counts for the rotation pointer: its demand does not fit, and something was divided (R112). -/
def countsSplit (q : Nat) (cs : List Claim) : Bool := decide (q < totalDemand cs ∧ 0 < q)

/-- What one class leaves to the next (R110). -/
def leftAfter (q : Nat) (cs : List Claim) : Nat := q - totalDemand cs

/-- The targets of the drawing set, class by class (R110), and whether a split was counted. -/
def allocate (q : Nat) (ptr : SlotIx) (loaded empty service : List Claim) : List (Claim × Nat) × Bool :=
  let q1 := leftAfter q loaded
  let q2 := leftAfter q1 empty
  (shareOut q ptr loaded ++ shareOut q1 ptr empty ++ shareOut q2 ptr service,
    countsSplit q loaded || countsSplit q1 empty || countsSplit q2 service)

/-- A truck's new grant, in amperes, from its target in quanta (R113). -/
def slewed (slew : Nat) (x : Claim × Nat) : Nat :=
  if x.1.grant < 10 * x.2 then min (10 * x.2) (x.1.grant + slew) else 10 * x.2

/-! ### The computation of a section (R104 to R116) -/

/-- The records a cycle took that name a section, with their slots. -/
def Cycle.of (c : Cycle) (k : SecIx) : List (SlotIx × TruckIn) :=
  allSlots.filterMap fun i =>
    match c.trucks[i] with
    | some t => if t.sec = some k then some (i, t) else none
    | none => none

/-- A record's claim (R109, R116). -/
def claimOf (x : SlotIx × TruckIn) : Claim where
  slot := x.1
  d := match x.2.firstCap with
    | some cap => min (x.2.demand / 10) (cap / 10)
    | none => x.2.demand / 10
  grant := x.2.grant

/-- The members of a computed set: ON-WIRE and fresh, of one direction (R109, R116). -/
def claimants (ts : List (SlotIx × TruckIn)) (d : Dir) : List (SlotIx × TruckIn) :=
  ts.filter fun x => decide (x.2.contact = .onWire ∧ x.2.stale = false ∧ x.2.dir = d)

/-- The claims of one class of the drawing set. -/
def classClaims (ts : List (SlotIx × TruckIn)) (c : TruckClass) : List Claim :=
  ((claimants ts .climb).filter fun x => decide (x.2.cls = c)).map claimOf

/-- The thermal rating (R105). -/
def thermalRating (x : SecIn) (c : Settings) : Nat := if x.heat < c.heatLimit / 2 then c.fp else c.f

/-- D, the distance to the farthest climbing truck on the wire (R106). -/
def farthest (feed : Nat) (ts : List (SlotIx × TruckIn)) : Nat :=
  (ts.filter fun x => decide (x.2.dir = .climb) && x.2.contact.drawing).foldl
    (fun m x => max m (dist x.2.est feed)) Config.distanceFloor

/-- The voltage limit (R106). -/
def voltageLimit (v vMin r d : Nat) : Nat := min ((v - vMin) * 100000 / (r * d)) Config.maxVoltageLimit

/-- A1, the ceiling (R107). -/
def ceilingOf (cy : Cycle) (x : SecIn) (c : Settings) (ts : List (SlotIx × TruckIn)) : Nat :=
  min (thermalRating x c) (voltageLimit x.feedVoltage cy.vMin c.r (farthest c.feed ts)) * x.sag / 8

/-- Q, the quanta for the drawing set (R108). -/
def quantaOf (cy : Cycle) (x : SecIn) (a1 : Nat) (ts : List (SlotIx × TruckIn)) : Nat :=
  (a1 - x.deduction - x.fixedLoad - cy.c * (ts.filter fun y => y.2.contact.passing).length) / 10

/-- The return pool is cut by the line voltage (R115). -/
def returnCut (cy : Cycle) (x : SecIn) : Bool := decide (cy.vMax ≤ x.feedVoltage)

/-- PR, the quanta the descending ON-WIRE trucks share (R115). -/
def returnQuanta (cy : Cycle) (x : SecIn) (c : Settings) (ts : List (SlotIx × TruckIn)) : Nat :=
  let draw := ((ts.filter fun y => decide (y.2.dir = .climb) && y.2.contact.drawing).map (·.2.current)).sum
  let kept := ((ts.filter fun y => decide (y.2.dir = .descend) && y.2.contact.passing).map (·.2.grant)).sum
  let p := if returnCut cy x then 0 else min c.returnCeiling draw / 10 * 10
  (p - kept) / 10

/-- The computation for one section (R104 to R117): what to publish, and the new grants in amperes; none where the section
is left out. -/
def Cycle.compute (cy : Cycle) (k : SecIx) : Option (SecOut × List (SlotIx × Nat)) :=
  let x := cy.secs[k]
  match x.settings with
  | none => none
  | some c =>
    if x.live then
      let ts := cy.of k
      let a1 := ceilingOf cy x c ts
      let climb := allocate (quantaOf cy x a1 ts) x.pointer (classClaims ts .loaded) (classClaims ts .empty)
        (classClaims ts .service)
      let back := (claimants ts .descend).map claimOf
      let pr := returnQuanta cy x c ts
      let targets := climb.1 ++ shareOut pr x.pointer back
      some ({ ceiling := a1, split := climb.2 || countsSplit pr back, cut := returnCut cy x },
        targets.map fun y => (y.1.slot, slewed cy.slew y))
    else none

/-- The inputs of a cycle (R103), nothing computed yet. -/
def State.takeInputs (s : State) (r : ScanResult) : Cycle where
  dt := r.delta
  vMin := s.limits.vMin
  vMax := s.limits.vMax
  c := s.limits.c
  slew := s.limits.slew
  secs := Vector.ofFn fun k : SecIx =>
    let x := s.secs[k]
    { settings := x.settings, live := s.isLive k, period := x.budget.livePeriod, heat := x.prot.heat
      sag := x.prot.sag, deduction := x.prot.deduction, fixedLoad := x.prot.fixedLoad, pointer := x.budget.pointer
      feedVoltage := r.feedVoltage k }
  trucks := Vector.ofFn fun i : SlotIx => (s.truck? i).map fun t =>
    { sec := t.sec, dir := t.dir, cls := t.cls, contact := t.contact, stale := t.stale, est := t.est
      speed := t.speed, current := t.current, demand := t.demand, grant := t.grant, firstCap := t.firstCap
      reported := false, restored := false, transferred := false }
  outs := Vector.replicate 6 none
  grants := Vector.replicate 16 none
  discard := false

/-- The computed results of one section written into the cycle. -/
def Cycle.run (cy : Cycle) (k : SecIx) : Cycle :=
  match cy.compute k with
  | none => cy
  | some (out, gs) =>
    { cy with
      outs := cy.outs.set k (some out)
      grants := gs.foldl (fun v g => v.set g.1 (some g.2)) cy.grants }

/-- BUDGET_CYCLE_INPUTS (R102, R103): the oldest waiting good scan result starts its cycle, unless one is in progress. -/
def execBudgetCycleInputs (s : State) : Host.Outcome State Fault Refusal :=
  match s.cycle, s.bgeScans with
  | none, r :: rest =>
    done { s with bgeScans := rest, cycle := some (allSecs.foldl Cycle.run (s.takeInputs r)) }
  | _, _ => done s

/-! ### Publication (R119 to R123) -/

/-- A section's publication goes ahead (R119). -/
def State.publishes (s : State) (cy : Cycle) (k : SecIx) : Bool :=
  s.isLive k && decide (s.secs[k].budget.livePeriod = cy.secs[k].period) && !cy.discard

/-- A computed grant still applies to its truck (R120). -/
def grantApplies (t : Truck) (n : TruckIn) : Bool :=
  decide (t.sec = n.sec ∧ t.dir = n.dir ∧ t.contact = n.contact ∧ t.stale = false)
  && !n.restored && !n.transferred

/-- The computed grant of one slot applied (R120). -/
def State.applyGrant (s : State) (cy : Cycle) (k : SecIx) (i : SlotIx) : State :=
  match s.truck? i, cy.trucks[i], cy.grants[i] with
  | some t, some n, some g => if n.sec = some k ∧ grantApplies t n then s.putGrant i (min g t.demand) else s
  | _, _, _ => s

/-- The ceiling check: the climbing trucks in SHEDDING or CROSSING are cut to fit A1 (R121). The excess over A1 is taken in
whole quanta, so that every grant stays a multiple of 10 A (R16, R21; DEDUCED, notes/assumptions/23.md). -/
def State.ceilingCheck (s : State) (k : SecIx) (a1 : Nat) : State :=
  s.cutGrants State.putGrant (fun t => decide (t.sec = some k ∧ t.dir = .climb) && t.contact.passing)
    (roundUp10 (s.grantSum k .climb - a1))

/-- The return check: the return grants are cut to fit the trim pool, and where the line voltage cut the pool, those in
SHEDDING or CROSSING to 0 (R122). -/
def State.returnCheck (s : State) (k : SecIx) (cut : Bool) : State :=
  let s := s.cutGrants State.putGrant (fun t => t.descendsIn k) (s.grantSum k .descend - s.trimPool k)
  if cut then
    s.eachSlot fun i s =>
      match s.truck? i with
      | some t => if t.descendsIn k ∧ t.contact.passing then s.putGrant i 0 else s
      | none => s
  else s

/-- The GRANT notices of one section's publication, in order of slot, for the grants it changed (R123). -/
def State.tellGrants (before : State) (k : SecIx) (cycle : Nat) (s : State) : State :=
  s.eachSlot fun i s =>
    match s.truck? i, before.truck? i with
    | some t, some o => if t.sec = some k ∧ t.grant ≠ o.grant then s.queueGrant i cycle else s
    | _, _ => s

/-- One section's publication (R119 to R123); `cycle` is the number the cycle raises the count to. -/
def State.publishSection (s : State) (cy : Cycle) (cycle : Nat) (k : SecIx) : State :=
  match cy.outs[k] with
  | none => s
  | some out =>
    if s.publishes cy k then
      let s1 := s.eachSlot fun i s => s.applyGrant cy k i
      let s2 := s1.modBudget k fun b =>
        { b with ceiling := out.ceiling, ceilingCycle := cycle, pointer := if out.split then b.pointer + 1 else b.pointer }
      let s3 := (s2.ceilingCheck k out.ceiling).returnCheck k out.cut
      State.tellGrants s k cycle s3
    else s

/-! ### The end of a cycle (R124) -/

/-- Step 1: the first-cycle caps present at the inputs go; one set by a restore since stays. -/
def State.dropCap (s : State) (cy : Cycle) (i : SlotIx) : State :=
  match cy.trucks[i] with
  | some n => if n.firstCap.isSome ∧ n.restored = false then s.modTruck i fun t => { t with firstCap := none } else s
  | none => s

/-- A charge added to a meter and its wrap count (R32). -/
def addCharge (meter wraps charge : Nat) : Nat × Nat :=
  if Config.meterWrap ≤ meter + charge then (meter + charge - Config.meterWrap, min (wraps + 1) Config.maxWraps)
  else (meter + charge, wraps)

/-- One record metered, by what the cycle took of it (R32). -/
def Truck.meter (t : Truck) (n : TruckIn) (dt : Nat) : Truck :=
  if n.contact.metered then
    match n.dir with
    | .climb =>
      let m := addCharge t.drawMeter t.drawWraps (n.current * dt)
      { t with drawMeter := m.1, drawWraps := m.2 }
    | .descend =>
      let m := addCharge t.retMeter t.retWraps (n.current * dt)
      { t with retMeter := m.1, retWraps := m.2 }
  else t

/-- An estimate and remainder moved by a distance in 0.1 mm (R30). -/
def moved (est rem travel : Nat) (d : Dir) : Nat × Nat :=
  let m := (rem + travel) / 10000
  let r := (rem + travel) % 10000
  match d with
  | .climb => if Config.maxPosition < est + m then (Config.maxPosition, 0) else (est + m, r)
  | .descend => if est < m then (0, 0) else (est - m, r)

/-- One record advanced and metered (R30 to R32), with what a changed estimate brings (R31, R34, R64). A truck transferred
into ON-WIRE since the inputs is dead-reckoned from the cycle after (R73; DEDUCED, notes/assumptions/25.md). -/
def State.advance (s : State) (cy : Cycle) (i : SlotIx) : State :=
  match s.truck? i, cy.trucks[i] with
  | some t, some n =>
    let s := s.modTruck i fun t => t.meter n cy.dt
    if n.stale ∨ n.reported ∨ n.transferred then s
    else
      let m := moved t.est t.rem (n.speed * cy.dt) n.dir
      let s := s.modTruck i fun t => { t with est := m.1, rem := m.2 }
      if m.1 = t.est then s else (State.trimming (fun s => s.gapSteps i t.est) s).positionRelease i
  | _, _ => s

/-- A queue entry's countdown at a cycle (R89). -/
def QEntry.tick (e : QEntry) : QEntry :=
  { e with countdown := e.countdown - 1, urgent := e.urgent || decide (e.countdown = 1) }

/-- The rank of a class in service (R91). -/
def TruckClass.rank : TruckClass → Nat
  | .loaded => 0
  | .empty => 1
  | .service => 2

/-- The entry a section's service selects (R91). -/
def State.select (s : State) (q : List QEntry) : Option QEntry :=
  let es := q.filter s.eligible
  match es.find? (·.urgent) with
  | some e => some e
  | none =>
    [TruckClass.loaded, .empty, .service].findSome? fun c =>
      es.find? fun e => match s.truck? e.slot with | some t => decide (t.cls = c) | none => false

/-- The service of one section's queue, at most `fuel` selections (R91). -/
def State.serve (k : SecIx) : Nat → State → State
  | 0, s => s
  | fuel + 1, s =>
    let cap := match s.secs[k].settings with
      | some c => c.cap
      | none => 0
    if s.isLive k ∧ s.onWireCount k < cap then
      match s.select s.secs[k].queue with
      | some e => State.serve k fuel ((s.dropEntry e.slot).clearToRaise e.slot)
      | none => s
    else s

/-- The end of a cycle: caps, number, advance and meters, countdowns, service (R124). -/
def State.endCycle (s : State) : State :=
  match s.cycle with
  | none => s
  | some cy =>
    let s := s.eachSlot fun i s => s.dropCap cy i
    let s := { s with cycleNo := next16 s.cycleNo }
    let s := s.eachSlot fun i s => s.advance cy i
    let s := s.eachSec fun k s => s.modQueue k fun q => q.map QEntry.tick
    let s := s.eachSec fun k s => State.serve k s.secs[k].queue.length s
    { s with cycle := none }

/-- BUDGET_CYCLE_PUBLICATION (R119 to R125). Nothing where no cycle is in progress. -/
def execBudgetCyclePublication (s : State) : Host.Outcome State Fault Refusal :=
  match s.cycle with
  | none => done s
  | some cy => done (s.eachSec fun k s => s.publishSection cy (next16 s.cycleNo) k).endCycle

end Sys2Proof.Machine
end

