-- ==== Sys2Proof/Machine/Feeder.lean ====
section
/-! DEFINITION. What the Feeder Sequencer does with a section, shared by its commands: changes of state with their notices
(R160), the test source (R162), taking a section down (R171), lockout (R179), trips (R172, R173), reclose (R174), entry
into LIVE (R167) and the stuck breaker (R169). -/

namespace Sys2Proof.Machine

/-- A section's feeder state and cause changed, and the SECTION notice queued (R160). The timers of the state that is left
go with it; an open confirmation starts where MAIN-CLOSE is deasserted by the change (R168). -/
def State.enterPhase (s : State) (k : SecIx) (p : Phase) (c : Cause) : State :=
  let opens := s.mainClose k && !p.mainClose
  let s := s.modFeeder k fun f =>
    { f with phase := p, cause := c, openConfirm := if opens then some Config.breakerConfirm else f.openConfirm }
  s.queueSection k

/-- Entry into TESTING as the source owner (R163). -/
def State.enterTesting (s : State) (k : SecIx) (allow : Bool) (c : Cause) : State :=
  { s with source := some k }.enterPhase k (.testing allow [] (s.now + Config.testSettle) Config.testTimeout) c

/-- A section asks for the test source (R162). -/
def State.askSource (s : State) (k : SecIx) (allow : Bool) (c : Cause) : State :=
  match s.source with
  | none => s.enterTesting k allow c
  | some _ => { s with waitList := s.waitList ++ [k] }.enterPhase k (.testPending allow) c

/-- The source is released by its owner and handed to the head of the wait list, which keeps its cause and option (R162).
Nothing where the section is not the owner. -/
def State.releaseSource (s : State) (k : SecIx) : State :=
  if s.source = some k then
    match s.waitList with
    | [] => { s with source := none }
    | h :: rest =>
      let allow := match s.phase h with
        | .testPending a => a
        | _ => false
      { s with waitList := rest }.enterTesting h allow s.secs[h].feeder.cause
  else s

/-- A section leaves LIVE: its ceiling is set to 0 (R101) and its trucks are held (R58). -/
def State.leaveLive (s : State) (k : SecIx) : State :=
  (s.modBudget k fun b => { b with ceiling := 0, ceilingCycle := s.cycleNo }).holdSection k

/-- A section taken to DEAD, LOCKED-OUT or TRIPPED (R171): the change with its notice, its trucks held if it was LIVE, its
place in the wait list given up, and the source released if it was the owner. -/
def State.takeDown (s : State) (k : SecIx) (p : Phase) (c : Cause) : State :=
  let wasLive := s.isLive k
  let s := { s with waitList := s.waitList.filter fun x => decide (x ≠ k) }.enterPhase k p c
  let s := if wasLive then s.leaveLive k else s
  s.releaseSource k

/-- The alert that an entry into LOCKED-OUT raises beside LOCKOUT, by its cause (R179). -/
def Cause.lockoutAlert : Cause → Option AlertKind
  | .lineFault => some .lineFault
  | .breakerStuck => some .breakerStuck
  | _ => none

/-- Entry into LOCKED-OUT (R179). -/
def State.lockOut (s : State) (k : SecIx) (c : Cause) : State :=
  let s := (s.takeDown k .lockedOut c).raiseAlert .lockout (some k) none
  match c.lockoutAlert with
  | some a => s.raiseAlert a (some k) none
  | none => s

/-- The feeder states of TEST-PENDING through TRIPPED, which DE-ENERGIZE, STOP, BUS-TRIP and RESTART take to DEAD. -/
def Phase.active : Phase → Bool
  | .testPending _ | .testing _ _ _ _ | .precharge _ _ | .closing _ | .live | .tripped _ _ => true
  | .unset | .dead | .lockedOut => false

/-- Every active section but one taken to DEAD, in order of section number (R169, R177, R180). -/
def State.allDown (s : State) (but : Option SecIx) (c : Cause) : State :=
  s.eachSec fun k s => if (s.phase k).active ∧ some k ≠ but then s.takeDown k .dead c else s

/-- A trip of a LIVE section (R172, R173); a cause that reaches a section out of LIVE does nothing. -/
def State.trip (s : State) (k : SecIx) (c : Cause) : State :=
  if s.isLive k then
    let f := s.secs[k].feeder
    let count := min (f.tripCount + 1) Config.tripLimit
    let s := s.modFeeder k fun f =>
      { f with tripCount := count, tripWindow := if f.tripCount = 0 then some Config.tripWindow else f.tripWindow }
    if count = Config.tripLimit then
      (s.lockOut k .repeatedTrip).raiseAlert .trip (some k) none
    else
      let delay := match s.secs[k].settings with
        | some x => x.reclose
        | none => 0
      (s.takeDown k (.tripped (if 0 < delay then some (1000 * delay) else none) false) c).raiseAlert .trip (some k) none
  else s

/-- The warm level of a section: half its heat limit, rounded down (R149). -/
def Sec.warmLevel (x : Sec) : Nat :=
  match x.settings with
  | some c => c.heatLimit / 2
  | none => 0

/-- A section is warm (R149). -/
def Sec.warm (x : Sec) : Bool := decide (x.warmLevel ≤ x.prot.heat)

/-- A section recloses: it asks for the test source with allow-occupied yes (R174). -/
def State.reclose (s : State) (k : SecIx) : State := s.askSource k true .reclose

/-- Entry into LIVE from CLOSING (R167): notice, ceiling 0 and a new live period (R101), trim and unaccounted state as new
(R151), and the HELD trucks restored (R60). -/
def State.enterLive (s : State) (k : SecIx) : State :=
  let s := s.enterPhase k .live .closed
  let s := s.modBudget k fun b => { b with ceiling := 0, ceilingCycle := s.cycleNo, livePeriod := b.livePeriod + 1 }
  let s := s.modProt k fun p =>
    { p with sag := Config.sagFull, unaccounted := false, highRun := 0, lowRun := 0, lastDraw := 0, deduction := 0 }
  s.restoreSection k

/-- A stuck breaker of a section (R169). -/
def State.stuckBreaker (s : State) (k : SecIx) : State :=
  if s.phase k = .lockedOut ∧ s.secs[k].feeder.cause = .breakerStuck then
    s.raiseAlert .breakerStuck (some k) none
  else
    let s :=
      if s.phase k = .lockedOut then
        (s.enterPhase k .lockedOut .breakerStuck).raiseAlert .breakerStuck (some k) none
      else s.lockOut k .breakerStuck
    let s := { s with busTrip := true, waitList := [] }
    s.allDown (some k) .busTrip

/-- Some section is LOCKED-OUT with cause BREAKER-STUCK. -/
def State.anyStuck (s : State) : Bool :=
  allSecs.any fun k => decide (s.phase k = .lockedOut ∧ s.secs[k].feeder.cause = .breakerStuck)

end Sys2Proof.Machine
end

