-- ==== Sys2Proof/Machine/Link.lean ====
section
/-! DEFINITION. The Control Link's commands: QUERY_SECTION (R196), SELF_CHECK (R197), RESTART (R203),
UNKNOWN_KIND_REQUEST (R195), FRAME_DISCARDED, FRAME_BUFFER_FULL and LINK_INTER_BYTE_TIMEOUT (R192, R193),
TRANSMIT_FRAME_END (R198, R201) and RESET (R204). -/

namespace Sys2Proof.Machine

/-- What QUERY-SECTION returns of a section (R196). -/
def State.sectionView (s : State) (k : SecIx) : SectionView :=
  let x := s.secs[k]
  { sec := k, state := x.feeder.phase.state, cause := x.feeder.cause, tripCount := x.feeder.tripCount
    feederCurrent := x.prot.feederCurrent, feedVoltage := x.prot.feedVoltage, farVoltage := x.prot.farVoltage
    lastScan := x.prot.lastScan, heat := x.prot.heat, sag := x.prot.sag, unaccounted := x.prot.unaccounted
    ceiling := x.budget.ceiling, ceilingCycle := x.budget.ceilingCycle, onWire := s.onWireCount k
    entries := x.queue.length, busTrip := s.busTrip, cycle := s.cycleNo }

/-- The effect of QUERY-SECTION (R196). -/
def State.querySection (s : State) (sec : Byte) : State × ReplyData :=
  match secOf sec with
  | none => refuse s .range
  | some k => (s, .querySection (s.sectionView k))

/-- QUERY_SECTION (R196). -/
def execQuerySection (h : ReqHdr) (sec : Byte) (s : State) : Host.Outcome State Fault Refusal :=
  takeRequest (.querySection h sec) h 0x30 3 (fun s => s.querySection sec) s

/-- The reference code SELF-CHECK returns: that of the last scan result, 0 if none is held (R129, R197). -/
def Sampler.refCode (x : Sampler) : Nat :=
  match x.last with
  | some r => r.code 0
  | none => 0

/-- The effect of SELF-CHECK (R197); the slots in use count its own. -/
def State.selfCheck (s : State) : State × ReplyData :=
  (s, .selfCheck s.smp.refCode s.smp.badRun s.smp.count s.link.notices.length (s.link.inbound.length + 1) s.link.rate
    s.busTrip s.cycleNo)

/-- SELF_CHECK (R197). -/
def execSelfCheck (h : ReqHdr) (s : State) : Host.Outcome State Fault Refusal :=
  takeRequest (.selfCheck h) h 0x60 2 (fun s => s.selfCheck) s

/-! ### RESTART -/

/-- Step 1 of R203: the roster, the queues and the sensor-seen marks are emptied. A cycle in progress knows no record any
more and will discard its publication (R128). -/
def State.emptyRoster (s : State) : State :=
  { s with
    roster := Vector.replicate 16 .free
    secs := mapVec (fun x => { x with queue := [] }) s.secs
    seen := Vector.replicate 5 none
    cycle := s.cycle.map fun c => { c with trucks := Vector.replicate 16 none, discard := true } }

/-- Step 2 of R203: sections down, trip counts and windows cleared (R180). -/
def State.restartFeeders (s : State) : State :=
  ({ s with waitList := [] }.allDown none .restart).eachSec fun k s =>
    s.modFeeder k fun f => { f with tripCount := 0, tripWindow := none }

/-- Step 3 of R203: Feeder Protection (R158). -/
def State.restartProtection (s : State) : State :=
  s.eachSec fun k s => s.modProt k fun p =>
    { p with
      sag := Config.sagFull, unaccounted := false, highRun := 0, lowRun := 0, lastDraw := 0, deduction := 0
      fixedLoad := 0 }

/-- A notice in transmission at a RESTART frees nothing at its end (R201). -/
def Tx.afterRestart : Tx → Tx
  | .notice n _ => .notice n true
  | .idle => .idle
  | .reply => .reply

/-- Step 4 of R203: the notice queue is emptied. -/
def State.emptyNotices (s : State) : State :=
  { s with link := { s.link with notices := [], tx := s.link.tx.afterRestart } }

/-- Step 5 of R203: the Alert List is emptied, and LOCKOUT and BREAKER-STUCK raised again (R189). -/
def State.restartAlerts (s : State) : State :=
  State.eachSec (s := { s with alt := { s.alt with pending := [], attended := none } }) fun k s =>
    if s.phase k = .lockedOut then
      let s := s.raiseAlert .lockout (some k) none
      if s.secs[k].feeder.cause = .breakerStuck then s.raiseAlert .breakerStuck (some k) none else s
    else s

/-- The effect of RESTART (R203). -/
def State.restart (s : State) : State :=
  s.emptyRoster.restartFeeders.restartProtection.emptyNotices.restartAlerts

/-- RESTART (R203). -/
def execRestart (h : ReqHdr) (s : State) : Host.Outcome State Fault Refusal :=
  takeRequest (.restart h) h 0x61 2 (fun s => (s.restart, .accept)) s

/-! ### Frames -/

/-- A complete frame whose kind names no request (R195): REJECT MALFORMED for a tag of 0, else REJECT UNKNOWN-KIND. -/
def takeUnknown (h : ReqHdr) (kind : Byte) (s : State) : Host.Outcome State Fault Refusal :=
  if h.inFrame ∧ s.ready then
    done (s.hunt.store (.unknownKindRequest h kind) h.tag kind
      (.reject (if h.tag = 0 then .malformed else .unknownKind) 0))
  else done s.hunt

/-- UNKNOWN_KIND_REQUEST (R195). A kind byte that names a request makes the term no such frame. -/
def execUnknownKindRequest (h : ReqHdr) (kind : Byte) (s : State) : Host.Outcome State Fault Refusal :=
  if requestKinds.contains kind then .refused .namedKind else takeUnknown h kind s

/-- FRAME_DISCARDED (R192): nothing changes but that hunting resumes. -/
def execFrameDiscarded (_cause : DiscardCause) (s : State) : Host.Outcome State Fault Refusal := done s.hunt

/-- FRAME_BUFFER_FULL (R193): the frame is discarded without reply. -/
def execFrameBufferFull (s : State) : Host.Outcome State Fault Refusal := done s.hunt

/-- LINK_INTER_BYTE_TIMEOUT (R192): the frame is discarded, and the byte after the gap is a new candidate for sync. -/
def execLinkInterByteTimeout (next : Byte) (s : State) : Host.Outcome State Fault Refusal :=
  done { s with link := { s.link with rx := if next = Config.syncByte then .length else .hunting } }

/-- A slot freed by the end of its RELEASED notice (R36, R201). -/
def State.freeSlotOf (s : State) (n : Notice) (void : Bool) : State :=
  match n with
  | .released i _ _ _ _ _ _ =>
    if ¬ void ∧ s.roster[i] = .releasePending then s.setSlot i .free else s
  | .grant _ _ _ _ _ | .order _ _ _ _ | .sec _ _ _ _ => s

/-- TRANSMIT_FRAME_END (R198, R193, R201). -/
def execTransmitFrameEnd (s : State) : Host.Outcome State Fault Refusal :=
  match s.link.tx with
  | .idle => done s
  | .reply => done { s with link := { s.link with tx := .idle, inbound := s.link.inbound.tail } }
  | .notice n void => done ({ s with link := { s.link with tx := .idle } }.freeSlotOf n void)

/-- The link rate the straps select (R190): whether the first and the second are closed. -/
def rateOf : Bool → Bool → LinkRate
  | false, false => .r115200
  | true, false => .r230400
  | false, true => .r460800
  | true, true => .r921600

/-- RESET (R204): every block returns to its reset state and the straps are read. The time base runs on, and the commands
that wait are not the part's (notes/assumptions/3.md). -/
def execReset (strap1 strap2 : Bool) (s : State) : Host.Outcome State Fault Refusal :=
  .next { State.reset with
    now := s.now
    link := { Link.reset with rate := rateOf strap1 strap2 }
    pending := s.pending }

end Sys2Proof.Machine
end

