-- ==== Sys2Proof/Machine/Protection.lean ====
section
/-! DEFINITION. Feeder Protection (R143 to R158): FPR_SCAN_EVALUATION, with the six steps of R144 for each configured
section. -/

namespace Sys2Proof.Machine

/-- The heat increment of a scan, signed (R147). -/
def heatIncrement (current f dt : Nat) : Int :=
  (((current / 10 : Nat) : Int) ^ 2 - ((f / 10 : Nat) : Int) ^ 2) * ((dt / 10 : Nat) : Int)

/-- A value set within 0 and a limit (R147). -/
def clampInt (x : Int) (limit : Nat) : Nat := min x.toNat limit

/-- Step 1 of R144: the last measured values (R145). -/
def Prot.measure (p : Prot) (r : ScanResult) (k : SecIx) : Prot :=
  { p with
    feederCurrent := r.feederCurrent k
    feedVoltage := r.feedVoltage k
    farVoltage := r.farVoltage k
    lastScan := some r.number }

/-- Step 2 of R144: the heat account (R147). -/
def Prot.heatUp (p : Prot) (c : Settings) (inc : Int) : Prot :=
  { p with heat := clampInt ((p.heat : Int) + inc) c.heatLimit }

/-- The sag trim after a scan (R150). -/
def sagAfter (k far vMin : Nat) : Nat :=
  if far < vMin then max (k - 1) Config.sagFloor
  else if vMin + Config.sagRecovery ≤ far then min (k + 1) Config.sagFull
  else k

/-- The reported currents of a section's metered trucks of one direction (R152). -/
def State.reportedSum (s : State) (k : SecIx) (d : Dir) : Nat :=
  s.sumTrucks fun t => if t.sec = some k ∧ t.dir = d ∧ t.contact.metered then t.current else 0

/-- The unaccounted draw W (R152). -/
def State.unaccountedDraw (s : State) (k : SecIx) (current : Nat) : Nat :=
  current + s.reportedSum k .descend - s.reportedSum k .climb

/-- The runs, flag and deduction after a draw W (R153, R154). -/
def Prot.account (p : Prot) (w threshold : Nat) : Prot :=
  let high := if threshold ≤ w then min (p.highRun + 1) Config.unaccPersistence else 0
  let low := if threshold ≤ w then 0 else min (p.lowRun + 1) Config.unaccPersistence
  let flag :=
    if threshold ≤ w then p.unaccounted || decide (high = Config.unaccPersistence)
    else p.unaccounted && decide (low ≠ Config.unaccPersistence)
  { p with
    lastDraw := w, highRun := high, lowRun := low, unaccounted := flag
    deduction := if flag then roundUp10 w else 0 }

/-- A truck carries the stuck mark (R54). -/
def Contact.stuck : Contact → Bool
  | .lowering none => true
  | _ => false

/-- The fixed load of a section: the reported currents of its stuck trucks (R55). -/
def State.fixedLoad (s : State) (k : SecIx) : Nat :=
  s.sumTrucks fun t => if t.sec = some k ∧ t.contact.stuck then t.current else 0

/-- Step 3 of R144: overcurrent (R146), which goes before the thermal check (R148). -/
def State.tripChecks (s : State) (c : Settings) (current : Nat) (inc : Int) (k : SecIx) : State :=
  if c.trip ≤ current then s.trip k .overcurrent
  else if 0 < inc ∧ s.secs[k].prot.heat = c.heatLimit then s.trip k .thermal
  else s

/-- Step 4 of R144, in LIVE (R150, R151). -/
def State.sagStep (s : State) (far : Nat) (k : SecIx) : State :=
  if s.isLive k then
    let old := s.secs[k].prot.sag
    let new := sagAfter old far s.limits.vMin
    let s := s.modProt k fun p => { p with sag := new }
    if new = Config.sagFloor ∧ old ≠ Config.sagFloor then s.raiseAlert .sag (some k) none else s
  else s

/-- Step 5 of R144, in LIVE (R152, R153, R154). -/
def State.drawStep (s : State) (current : Nat) (k : SecIx) : State :=
  if s.isLive k then
    let old := s.secs[k].prot.unaccounted
    let w := s.unaccountedDraw k current
    let s := s.modProt k fun p => p.account w s.limits.unaccounted
    if s.secs[k].prot.unaccounted ∧ ¬ old then s.raiseAlert .unaccountedDraw (some k) none else s
  else s

/-- One section's evaluation of a good scan: the six steps of R144. -/
def State.evaluate (s : State) (r : ScanResult) (k : SecIx) : State :=
  match s.secs[k].settings with
  | none => s
  | some c =>
    let current := r.feederCurrent k
    let inc := heatIncrement current c.f r.delta
    let s := s.modProt k fun p => (p.measure r k).heatUp c inc
    let s := s.tripChecks c current inc k
    let s := (s.sagStep (r.farVoltage k) k).drawStep current k
    s.modProt k fun p => { p with fixedLoad := s.fixedLoad k }

/-- FPR_SCAN_EVALUATION (R144): Feeder Protection takes the oldest good scan result it has not taken. -/
def execFprScanEvaluation (s : State) : Host.Outcome State Fault Refusal :=
  match s.fprScans with
  | [] => done s
  | r :: rest => done ({ s with fprScans := rest }.eachSec fun k s => s.evaluate r k)

end Sys2Proof.Machine
end

