-- ==== Sys2Proof/Machine/Sensors.lean ====
section
/-! DEFINITION. The gap sensors (R79 to R82): GAP_SENSOR_ACTIVATION and GAP_SENSOR_DEACTIVATION. -/

namespace Sys2Proof.Machine

/-- A truck a sensor activation may be attributed to: SHEDDING, CROSSING or LOWERING, within Z + E of the gap (R80). -/
def State.reachable (s : State) (g : GapIx) (t : Truck) : Bool :=
  (t.contact.passing || decide (t.contact.state = .lowering))
  && decide (dist t.est (s.gapPos g) ≤ s.limits.z + s.limits.e)

/-- The nearest truck in reach of a gap, the lower slot between equals (R80). -/
def State.nearest (s : State) (g : GapIx) : Option (SlotIx × Truck) :=
  allSlots.foldl (fun best i =>
    match s.truck? i with
    | none => best
    | some t =>
      if s.reachable g t then
        match best with
        | none => some (i, t)
        | some b => if dist t.est (s.gapPos g) < dist b.2.est (s.gapPos g) then some (i, t) else best
      else best) none

/-- An activation of the sensor of a gap that exists (R80, R81). -/
def State.activate (s : State) (g : GapIx) : State :=
  match s.nearest g with
  | none =>
    (s.raiseAlert .unexpectedBridge (some (below g)) none).raiseAlert .unexpectedBridge (some (above g)) none
  | some (i, t) =>
    let s := { s with seen := s.seen.set g (some i) }
    match t.contact with
    | .shedding _ _ => State.trimming (fun s => (s.lower i .overrun).raiseOverrun t.tag [below g, above g]) s
    | _ => s

/-- The Gap Monitor sees a change of a gap's sensor to a level (R3, R79): the gap exists, and the change waits among those
handed over, or the filtered value is at the other level and the command itself is the change (notes/assumptions/7.md). A
value that stood there when the gap came into being is the starting value, and no change. -/
def State.seesGap (s : State) (g : GapIx) (v : Bool) : Bool :=
  s.gapExists g && (decide (Change.gap g v ∈ s.ifl.handed) || s.ifl.gaps[g].value != v)

/-- GAP_SENSOR_ACTIVATION (R79 to R81), a filtered change from inactive to active. -/
def execGapSensorActivation (g : GapIx) (s : State) : Host.Outcome State Fault Refusal :=
  let t := s.takeChange (.gap g true)
  done (if s.seesGap g true then t.activate g else t)

/-- The estimate of a truck transferred by a sensor brought to the gap, where it still lies on the near side (R74). -/
def State.bringToGap (s : State) (i : SlotIx) (g : GapIx) : State :=
  s.modTruck i fun t =>
    match t.dir with
    | .climb => if t.est < s.gapPos g then { t with est := s.gapPos g, rem := 0 } else t
    | .descend => if s.gapPos g ≤ t.est then { t with est := s.gapPos g - 1, rem := 0 } else t

/-- A deactivation of the sensor of a gap that exists: a marked truck still crossing this gap is transferred, and the mark
goes (R82). -/
def State.deactivate (s : State) (g : GapIx) : State :=
  match s.seen[g] with
  | none => s
  | some i =>
    let s' := { s with seen := s.seen.set g none }
    match s.truck? i with
    | some t =>
      if t.contact = .crossing g then State.trimming (fun s => (s.bringToGap i g).transfer i) s' else s'
    | none => s'

/-- GAP_SENSOR_DEACTIVATION (R79, R82), a filtered change from active to inactive. -/
def execGapSensorDeactivation (g : GapIx) (s : State) : Host.Outcome State Fault Refusal :=
  let t := s.takeChange (.gap g false)
  done (if s.seesGap g false then t.deactivate g else t)

end Sys2Proof.Machine
end

