-- ==== Sys2Proof/Machine/Sequencer.lean ====
section
/-! DEFINITION. The commands of the Feeder Sequencer: ENERGIZE (R161), DE_ENERGIZE (R176), CLEAR_LOCKOUT (R178),
FSQ_SCAN_EVALUATION (R163, R164, R166, R175), the breaker feedback (R167, R168, R172), STOP (R177) and the expiries of a
section's durations (R165 to R168, R173, R174). -/

namespace Sys2Proof.Machine

/-! ### Requests -/

/-- The effect of ENERGIZE: the checks of R161 in their order, then the test source (R162). -/
def State.energize (s : State) (sec allow : Byte) : State × ReplyData :=
  match secOf sec, boolOf allow with
  | some k, some a =>
    if s.phase k ≠ .dead then refuse s .state
    else if (s.secs[k].feeder.openConfirm).isSome then refuse s .busy
    else if s.stopActive then refuse s .stopped
    else if s.busTrip then refuse s .busTripped
    else
      let s := s.askSource k a .energize
      (s, .sectionState k (s.phase k).state)
  | _, _ => refuse s .range

/-- ENERGIZE (R161). -/
def execEnergize (h : ReqHdr) (sec allow : Byte) (s : State) : Host.Outcome State Fault Refusal :=
  takeRequest (.energize h sec allow) h 0x11 4 (fun s => s.energize sec allow) s

/-- The effect of DE-ENERGIZE (R176). -/
def State.deEnergize (s : State) (sec : Byte) : State × ReplyData :=
  match secOf sec with
  | some k =>
    if (s.phase k).active then (s.takeDown k .dead .deEnergize, .sectionState k .dead) else refuse s .state
  | none => refuse s .range

/-- DE_ENERGIZE (R176). -/
def execDeEnergize (h : ReqHdr) (sec : Byte) (s : State) : Host.Outcome State Fault Refusal :=
  takeRequest (.deEnergize h sec) h 0x12 3 (fun s => s.deEnergize sec) s

/-- The effect of CLEAR-LOCKOUT (R178). -/
def State.clearLockout (s : State) (sec : Byte) : State × ReplyData :=
  match secOf sec with
  | some k =>
    let stuck := decide (s.secs[k].feeder.cause = .breakerStuck)
    if s.phase k ≠ .lockedOut then refuse s .state
    else if s.feedbackClosed k then refuse s .state
    else if s.busTrip ∧ ¬ stuck then refuse s .busTripped
    else
      let s := s.enterPhase k .dead .lockoutCleared
      let s := s.modFeeder k fun f => { f with tripCount := 0, tripWindow := none }
      let s := if stuck ∧ ¬ s.anyStuck then { s with busTrip := false } else s
      (s, .sectionState k .dead)
  | none => refuse s .range

/-- CLEAR_LOCKOUT (R178). -/
def execClearLockout (h : ReqHdr) (sec : Byte) (s : State) : Host.Outcome State Fault Refusal :=
  takeRequest (.clearLockout h sec) h 0x13 3 (fun s => s.clearLockout sec) s

/-! ### Scans -/

/-- The median of three readings (R164). -/
def median (a b c : Nat) : Nat := max (min a b) (min (max a b) c)

/-- A section leaves TESTING by its verdict (R164): the change with its notice, then the source handed over. -/
def State.verdict (s : State) (k : SecIx) (allow : Bool) (m : Nat) : State :=
  if Config.clearOhms ≤ m then
    (s.enterPhase k (.precharge s.now Config.prechargeWindow) .lineClear).releaseSource k
  else if Config.shortOhms ≤ m then
    if allow then (s.enterPhase k (.precharge s.now Config.prechargeWindow) .lineOccupied).releaseSource k
    else s.takeDown k .dead .testOccupied
  else s.lockOut k .lineFault

/-- A good scan at one section (R163, R164, R166, R175). -/
def State.scanFeeder (s : State) (r : ScanResult) (k : SecIx) : State :=
  match s.phase k with
  | .testing allow rs settle t =>
    if settle ≤ r.instant then
      match rs with
      | [a, b] => s.verdict k allow (median a b r.ohms)
      | _ =>
        if rs.length < Config.testReadings then
          s.modFeeder k fun f => { f with phase := .testing allow (rs ++ [r.ohms]) settle t }
        else s
    else s
  | .precharge since _ =>
    if since ≤ r.instant ∧ r.bus * 9 / 10 ≤ r.feedVoltage k then
      s.enterPhase k (.closing Config.breakerConfirm) .precharged
    else s
  | .tripped _ true => if s.secs[k].warm then s else s.reclose k
  | _ => s

/-- FSQ_SCAN_EVALUATION (R163): the Feeder Sequencer takes the oldest good scan result it has not taken, for each section
in order. -/
def execFsqScanEvaluation (s : State) : Host.Outcome State Fault Refusal :=
  match s.fsqScans with
  | [] => done s
  | r :: rest => done ({ s with fsqScans := rest }.eachSec fun k s => s.scanFeeder r k)

/-! ### Breaker feedback and STOP -/

/-- A filtered closing of a section's breaker (R167, R168). -/
def State.closeFeedback (s : State) (k : SecIx) : State :=
  match s.phase k with
  | .closing _ => s.enterLive k
  | .live | .unset => s
  | .dead | .testPending _ | .testing _ _ _ _ | .precharge _ _ | .tripped _ _ | .lockedOut =>
    if s.secs[k].feeder.openConfirm.isSome then s else s.stuckBreaker k

/-- BREAKER_FEEDBACK_CLOSED (R167, R168). -/
def execBreakerFeedbackClosed (k : SecIx) (s : State) : Host.Outcome State Fault Refusal :=
  done ((s.takeChange (.breaker k true)).closeFeedback k)

/-- BREAKER_FEEDBACK_OPEN (R172): an uncommanded opening trips a LIVE section; in any other state it does nothing. -/
def execBreakerFeedbackOpen (k : SecIx) (s : State) : Host.Outcome State Fault Refusal :=
  done ((s.takeChange (.breaker k false)).trip k .uncommandedOpen)

/-- STOP_ACTIVATION (R177). -/
def execStopActivation (s : State) : Host.Outcome State Fault Refusal :=
  let s := (s.takeChange (.stop true)).raiseAlert .stop none none
  done ({ s with waitList := [] }.allDown none .stop)

/-- STOP_RELEASE (R177): no section and no alert changes; ENERGIZE is no longer refused. -/
def execStopRelease (s : State) : Host.Outcome State Fault Refusal :=
  done (s.takeChange (.stop false))

/-! ### Expiries -/

/-- TEST_TIMEOUT (R165). -/
def execTestTimeout (k : SecIx) (s : State) : Host.Outcome State Fault Refusal :=
  match s.phase k with
  | .testing _ _ _ t => done ((s.lapse t).takeDown k .dead .testTimeout)
  | _ => done s

/-- PRECHARGE_WINDOW_EXPIRY (R166). -/
def execPrechargeWindowExpiry (k : SecIx) (s : State) : Host.Outcome State Fault Refusal :=
  match s.phase k with
  | .precharge _ w => done ((s.lapse w).lockOut k .prechargeFail)
  | _ => done s

/-- CLOSE_CONFIRM_EXPIRY (R167). -/
def execCloseConfirmExpiry (k : SecIx) (s : State) : Host.Outcome State Fault Refusal :=
  match s.phase k with
  | .closing w => done ((s.lapse w).lockOut k .closeFail)
  | _ => done s

/-- OPEN_CONFIRMATION_EXPIRY (R168): a feedback still closed is a stuck breaker, unless the section is UNSET. -/
def execOpenConfirmationExpiry (k : SecIx) (s : State) : Host.Outcome State Fault Refusal :=
  match s.secs[k].feeder.openConfirm with
  | some w =>
    let s := (s.lapse w).modFeeder k fun f => { f with openConfirm := none }
    done (if s.phase k ≠ .unset ∧ s.feedbackClosed k then s.stuckBreaker k else s)
  | none => done s

/-- RECLOSE_TIMER_EXPIRY (R174): a reclose, or the thermal wait of a warm section that tripped THERMAL. -/
def execRecloseTimerExpiry (k : SecIx) (s : State) : Host.Outcome State Fault Refusal :=
  match s.phase k with
  | .tripped (some w) _ =>
    let s := s.lapse w
    if s.secs[k].feeder.cause = .thermal ∧ s.secs[k].warm then
      done (s.modFeeder k fun f => { f with phase := .tripped none true })
    else done (s.reclose k)
  | _ => done s

/-- TRIP_WINDOW_EXPIRY (R173). -/
def execTripWindowExpiry (k : SecIx) (s : State) : Host.Outcome State Fault Refusal :=
  match s.secs[k].feeder.tripWindow with
  | some w => done ((s.lapse w).modFeeder k fun f => { f with tripCount := 0, tripWindow := none })
  | none => done s

end Sys2Proof.Machine
end

