-- ==== Sys2Proof/Machine/Settings.lean ====
section
/-! DEFINITION. The commands that change settings: CONFIGURE_SECTION (R5 to R9) and SET_LIMITS (R10 to R12). -/

namespace Sys2Proof.Machine

/-- The geometry check (R7). -/
def State.fitsNeighbours (s : State) (k : SecIx) (c : Settings) : Bool :=
  (if h : 0 < k.val then
    match s.secs[(⟨k.val - 1, by omega⟩ : SecIx)].settings with
    | some b => decide (b.upper = c.lower)
    | none => false
  else true) &&
  (if h : k.val < 5 then
    match s.secs[(⟨k.val + 1, by omega⟩ : SecIx)].settings with
    | some a => decide (c.upper = a.lower)
    | none => true
  else true)

/-- Some roster record has the section as its section. -/
def State.holdsTruck (s : State) (k : SecIx) : Bool :=
  allSlots.any fun i => match s.truck? i with | some t => decide (t.sec = some k) | none => false

/-- The occupancy check passes (R8): the bounds and feed point stay as stored, or no truck has the section. -/
def State.mayMove (s : State) (k : SecIx) (c : Settings) : Bool :=
  match s.secs[k].settings with
  | some o => decide (o.lower = c.lower ∧ o.upper = c.upper ∧ o.feed = c.feed) || !s.holdsTruck k
  | none => !s.holdsTruck k

/-- A CROSSING truck whose estimate lies beyond its crossing gap, so that it keeps its section (R2, R70). -/
def State.keepsSection (s : State) (t : Truck) : Bool :=
  match t.contact, t.sec with
  | .crossing _, some k =>
    match s.secs[k].settings with
    | some c => beyondSection c t.dir t.est
    | none => false
  | _, _ => false

/-- A truck's section and zone found again after an accepted CONFIGURE-SECTION (R9), and its release check (R34). A
CROSSING truck beyond its gap keeps its section (R2, R70). -/
def State.reconsider (s : State) (i : SlotIx) : State :=
  match s.truck? i with
  | none => s
  | some t =>
    let new := s.sectionOf t.est
    if s.keepsSection t ∨ new = t.sec then (s.zoneAct i).positionRelease i
    else ((s.sectionChange i t.est false new).zoneAct i).positionRelease i

/-- The Gap Monitor's part in a first configuration (R3): the filtered value of a gap's sensor when the gap comes into being
is its starting value, so no change of it that was handed over while the gap did not exist is left to be acted on
(notes/assumptions/7.md). -/
def State.dropGapChanges (s : State) : State :=
  { s with ifl := { s.ifl with handed := s.ifl.handed.filter fun
      | .gap g _ => s.gapExists g
      | .breaker _ _ | .stop _ => true } }

/-- The settings of a section replaced (R9): an UNSET section becomes DEAD with a new live state, and its breaker is found
stuck if its feedback reads closed (R168); a DEAD section keeps its state, its heat clamped to the new limit. -/
def State.applySettings (s : State) (k : SecIx) (c : Settings) : State :=
  if s.configured k then
    (s.modSec k fun x => { x with settings := some c }).modProt k fun p => { p with heat := min p.heat c.heatLimit }
  else
    let s := s.dropGapChanges.modSec k fun x =>
      { x with
        settings := some c
        feeder := { x.feeder with tripCount := 0 }
        prot := { x.prot with heat := 0, sag := Config.sagFull, unaccounted := false, deduction := 0 }
        budget := { x.budget with ceiling := 0, pointer := 0, livePeriod := 0 }
        queue := [] }
    let s := s.enterPhase k .dead .configured
    if s.feedbackClosed k then s.stuckBreaker k else s

/-- The effect of CONFIGURE-SECTION: the four checks of R5 in their order, then R9. -/
def State.configure (s : State) (x : ConfigFields) : State × ReplyData :=
  let c := settingsOf x
  match secOf x.sec with
  | none => refuse s .range
  | some k =>
    if ¬ c.inRange then refuse s .range
    else if s.phase k ≠ .unset ∧ s.phase k ≠ .dead then refuse s .state
    else if ¬ s.fitsNeighbours k c then refuse s .geometry
    else if ¬ s.mayMove k c then refuse s .busy
    else
      let s := (s.applySettings k c).eachSlot fun i => State.trimming fun s => s.reconsider i
      (s, .sectionState k (s.phase k).state)

/-- CONFIGURE_SECTION (R5 to R9). -/
def execConfigureSection (h : ReqHdr) (x : ConfigFields) (s : State) : Host.Outcome State Fault Refusal :=
  takeRequest (.configureSection h x) h 0x01 24 (fun s => s.configure x) s

/-- Grants above the new C cut to it, for each truck in SHEDDING or CROSSING (R12). -/
def State.cutToC (s : State) (i : SlotIx) : State :=
  match s.truck? i with
  | some t => if t.contact.passing ∧ s.limits.c < t.grant then s.setGrant i s.limits.c else s
  | none => s

/-- The effect of SET-LIMITS (R10, R12). -/
def State.putLimits (s : State) (l : Limits) : State × ReplyData :=
  if ¬ l.inRange then refuse s .range
  else
    let moved := decide (l.z ≠ s.limits.z ∨ l.e ≠ s.limits.e)
    let s := { s with limits := l }.eachSlot fun i s => s.cutToC i
    let s := if moved then s.eachSlot fun i => State.trimming fun s => (s.transferCheck i).zoneAct i else s
    (s, .accept)

/-- SET_LIMITS (R10 to R12). -/
def execSetLimits (h : ReqHdr) (x : LimitFields) (s : State) : Host.Outcome State Fault Refusal :=
  takeRequest (.setLimits h x) h 0x02 28 (fun s => s.putLimits (limitsOf x)) s

end Sys2Proof.Machine
end

