-- ==== Sys2Proof/Machine/Timers.lean ====
section
/-! DEFINITION. The expiries of a truck record's durations and the thresholds of its report age (R24, R25, R27 to R29, R47,
R54, R68). Each is taken when its moment comes: what is left of the duration passes first (notes/assumptions/6.md), and a
record that has no such duration is left as it is. -/

namespace Sys2Proof.Machine

/-- RAISE_WINDOW_EXPIRY (R47). -/
def execRaiseWindowExpiry (i : SlotIx) (s : State) : Host.Outcome State Fault Refusal :=
  match s.truck? i with
  | some t =>
    match t.contact with
    | .cleared w => done ((s.lapse w).enterEnrolled i (some .raiseExpired))
    | _ => done s
  | none => done s

/-- LOWER_WINDOW_EXPIRY (R54): the stuck mark is set, and CONTACT-STUCK raised for the truck's section. -/
def execLowerWindowExpiry (i : SlotIx) (s : State) : Host.Outcome State Fault Refusal :=
  match s.truck? i with
  | some t =>
    match t.contact with
    | .lowering (some w) =>
      done (((s.lapse w).setContact i (.lowering none)).raiseAlert .contactStuck t.sec (some t.tag))
    | _ => done s
  | none => done s

/-- SHED_DEADLINE_EXPIRY (R68). -/
def execShedDeadlineExpiry (i : SlotIx) (s : State) : Host.Outcome State Fault Refusal :=
  match s.truck? i with
  | some t =>
    match t.contact with
    | .shedding _ d => done (State.trimming (fun s => s.lower i .shedLate) (s.lapse d))
    | _ => done s
  | none => done s

/-- STALE_POINT_PASSED (R27): the stale flag is set, and a grant on the wire cut to 0. -/
def execStalePointPassed (i : SlotIx) (s : State) : Host.Outcome State Fault Refusal :=
  match s.truck? i with
  | some t =>
    if t.stale then done s
    else
      let s := (s.lapse (t.stalePoint + 1 - t.age)).modTruck i fun t => { t with stale := true }
      done (if t.contact.drawing then s.setGrant i 0 else s)
  | none => done s

/-- STALE_LOWER (R28): at three times the stale point a truck cleared or on the wire is ordered LOWER (STALE). -/
def execStaleLower (i : SlotIx) (s : State) : Host.Outcome State Fault Refusal :=
  match s.truck? i with
  | some t =>
    let s := s.lapse (3 * t.stalePoint - t.age)
    done (if t.contact.onWireSet then State.trimming (fun s => s.lower i .stale) s else s)
  | none => done s

/-- IDLE_RELEASE (R29): at an age of 60,000 ms an ENROLLED or WAITING truck is released. -/
def execIdleRelease (i : SlotIx) (s : State) : Host.Outcome State Fault Refusal :=
  match s.truck? i with
  | some t =>
    if t.contact = .enrolled ∨ t.contact = .waiting then
      done (((s.lapse (Config.idleAge - t.age)).dropEntry i).release i)
    else done s
  | none => done s

/-- ARC_TALLY_DECAY (R24): the tally falls by 1, not below 0, and the decay timer starts again. -/
def execArcTallyDecay (i : SlotIx) (s : State) : Host.Outcome State Fault Refusal :=
  match s.truck? i with
  | some t =>
    done ((s.lapse t.decayTimer).modTruck i fun t => { t with arc := t.arc - 1, decayTimer := Config.arcDecay })
  | none => done s

/-- RAISE_BAR_EXPIRY (R25). -/
def execRaiseBarExpiry (i : SlotIx) (s : State) : Host.Outcome State Fault Refusal :=
  match s.truck? i with
  | some t =>
    match t.bar with
    | some w => done ((s.lapse w).modTruck i fun t => { t with bar := none })
    | none => done s
  | none => done s

end Sys2Proof.Machine
end

