-- ==== Sys2Proof/Machine/Dispatch.lean ====
section
/-! DEFINITION. One arm per command, in the order of the operation table, each a call of the command's meaning. -/

namespace Sys2Proof.Machine

def exec (i : Instr) (s : State) : Host.Outcome State Fault Refusal :=
  match i with
  | .configureSection h x => Sys2Proof.Machine.execConfigureSection h x s
  | .setLimits h x => Sys2Proof.Machine.execSetLimits h x s
  | .setCadence h mode period => Sys2Proof.Machine.execSetCadence h mode period s
  | .scan h => Sys2Proof.Machine.execScan h s
  | .energize h sec allow => Sys2Proof.Machine.execEnergize h sec allow s
  | .deEnergize h sec => Sys2Proof.Machine.execDeEnergize h sec s
  | .clearLockout h sec => Sys2Proof.Machine.execClearLockout h sec s
  | .enrol h x => Sys2Proof.Machine.execEnrol h x s
  | .report h x => Sys2Proof.Machine.execReport h x s
  | .raise h truck => Sys2Proof.Machine.execRaise h truck s
  | .depart h truck => Sys2Proof.Machine.execDepart h truck s
  | .querySection h sec => Sys2Proof.Machine.execQuerySection h sec s
  | .queryTruck h truck => Sys2Proof.Machine.execQueryTruck h truck s
  | .queryQueue h sec => Sys2Proof.Machine.execQueryQueue h sec s
  | .attend h => Sys2Proof.Machine.execAttend h s
  | .ackAlert h => Sys2Proof.Machine.execAckAlert h s
  | .maskSection h sec setting => Sys2Proof.Machine.execMaskSection h sec setting s
  | .selfCheck h => Sys2Proof.Machine.execSelfCheck h s
  | .restart h => Sys2Proof.Machine.execRestart h s
  | .unknownKindRequest h kind => Sys2Proof.Machine.execUnknownKindRequest h kind s
  | .frameDiscarded cause => Sys2Proof.Machine.execFrameDiscarded cause s
  | .frameBufferFull => Sys2Proof.Machine.execFrameBufferFull s
  | .linkInterByteTimeout next => Sys2Proof.Machine.execLinkInterByteTimeout next s
  | .transmitFrameEnd => Sys2Proof.Machine.execTransmitFrameEnd s
  | .reset strap1 strap2 => Sys2Proof.Machine.execReset strap1 strap2 s
  | .cadenceTimerExpiry => Sys2Proof.Machine.execCadenceTimerExpiry s
  | .scanCompletion codes => Sys2Proof.Machine.execScanCompletion codes s
  | .fprScanEvaluation => Sys2Proof.Machine.execFprScanEvaluation s
  | .fsqScanEvaluation => Sys2Proof.Machine.execFsqScanEvaluation s
  | .budgetCycleInputs => Sys2Proof.Machine.execBudgetCycleInputs s
  | .budgetCyclePublication => Sys2Proof.Machine.execBudgetCyclePublication s
  | .breakerFeedbackClosed k => Sys2Proof.Machine.execBreakerFeedbackClosed k s
  | .breakerFeedbackOpen k => Sys2Proof.Machine.execBreakerFeedbackOpen k s
  | .gapSensorActivation g => Sys2Proof.Machine.execGapSensorActivation g s
  | .gapSensorDeactivation g => Sys2Proof.Machine.execGapSensorDeactivation g s
  | .stopActivation => Sys2Proof.Machine.execStopActivation s
  | .stopRelease => Sys2Proof.Machine.execStopRelease s
  | .raiseWindowExpiry slot => Sys2Proof.Machine.execRaiseWindowExpiry slot s
  | .lowerWindowExpiry slot => Sys2Proof.Machine.execLowerWindowExpiry slot s
  | .shedDeadlineExpiry slot => Sys2Proof.Machine.execShedDeadlineExpiry slot s
  | .stalePointPassed slot => Sys2Proof.Machine.execStalePointPassed slot s
  | .staleLower slot => Sys2Proof.Machine.execStaleLower slot s
  | .idleRelease slot => Sys2Proof.Machine.execIdleRelease slot s
  | .arcTallyDecay slot => Sys2Proof.Machine.execArcTallyDecay slot s
  | .raiseBarExpiry slot => Sys2Proof.Machine.execRaiseBarExpiry slot s
  | .testTimeout k => Sys2Proof.Machine.execTestTimeout k s
  | .prechargeWindowExpiry k => Sys2Proof.Machine.execPrechargeWindowExpiry k s
  | .closeConfirmExpiry k => Sys2Proof.Machine.execCloseConfirmExpiry k s
  | .openConfirmationExpiry k => Sys2Proof.Machine.execOpenConfirmationExpiry k s
  | .recloseTimerExpiry k => Sys2Proof.Machine.execRecloseTimerExpiry k s
  | .tripWindowExpiry k => Sys2Proof.Machine.execTripWindowExpiry k s
  | .inputFilterSampling levels => Sys2Proof.Machine.execInputFilterSampling levels s

end Sys2Proof.Machine
end

