-- ==== Sys2Proof/Machine/Idle.lean ====
section
/-! DEFINITION. What the block does by itself while no command waits (notes/assumptions/5.md): it takes the first event that
is due, or, with none due, lets one millisecond pass. Due are the filtered changes and scan results handed to a block and
not yet taken, the end of a cycle in progress, and every duration that has run out. Events that carry what only the plant
or the line supplies (SCAN_COMPLETION, INPUT_FILTER_SAMPLING, TRANSMIT_FRAME_END, frames) are sent from outside. -/

namespace Sys2Proof.Machine

/-- The command by which an owner takes a filtered change (R141). -/
def Change.command : Change → Instr
  | .breaker k true => .breakerFeedbackClosed k
  | .breaker k false => .breakerFeedbackOpen k
  | .gap g true => .gapSensorActivation g
  | .gap g false => .gapSensorDeactivation g
  | .stop true => .stopActivation
  | .stop false => .stopRelease

/-- A command, if it is due. -/
def dueIf (b : Bool) (i : Instr) : List Instr := if b then [i] else []

/-- The events due of scans and cycles (R102, R131). -/
def State.dueScans (s : State) : List Instr :=
  dueIf (!s.fprScans.isEmpty) .fprScanEvaluation
  ++ dueIf (!s.fsqScans.isEmpty) .fsqScanEvaluation
  ++ dueIf s.cycle.isSome .budgetCyclePublication
  ++ dueIf (s.cycle.isNone && !s.bgeScans.isEmpty) .budgetCycleInputs
  ++ dueIf (decide (s.smp.timer = some 0)) .cadenceTimerExpiry

/-- The expiries due of a section. -/
def State.dueSec (s : State) (k : SecIx) : List Instr :=
  let f := s.secs[k].feeder
  (match f.phase with
    | .testing _ _ _ 0 => [.testTimeout k]
    | .precharge _ 0 => [.prechargeWindowExpiry k]
    | .closing 0 => [.closeConfirmExpiry k]
    | .tripped (some 0) _ => [.recloseTimerExpiry k]
    | _ => [])
  ++ dueIf (decide (f.openConfirm = some 0)) (.openConfirmationExpiry k)
  ++ dueIf (decide (f.tripWindow = some 0)) (.tripWindowExpiry k)

/-- The expiries and thresholds due of a truck record. -/
def dueTruck (i : SlotIx) (t : Truck) : List Instr :=
  dueIf (decide (t.decayTimer = 0)) (.arcTallyDecay i)
  ++ dueIf (decide (t.bar = some 0)) (.raiseBarExpiry i)
  ++ dueIf (!t.stale && decide (t.stalePoint < t.age)) (.stalePointPassed i)
  ++ dueIf (t.contact.onWireSet && decide (3 * t.stalePoint ≤ t.age)) (.staleLower i)
  ++ dueIf (decide ((t.contact = .enrolled ∨ t.contact = .waiting) ∧ Config.idleAge ≤ t.age)) (.idleRelease i)
  ++ (match t.contact with
    | .cleared 0 => [.raiseWindowExpiry i]
    | .shedding _ 0 => [.shedDeadlineExpiry i]
    | .lowering (some 0) => [.lowerWindowExpiry i]
    | _ => [])

/-- The events due, in the order in which the block takes them: the manual gives none. -/
def State.due (s : State) : List Instr :=
  s.ifl.handed.map Change.command
  ++ s.dueScans
  ++ allSecs.flatMap s.dueSec
  ++ allSlots.flatMap fun i => match s.truck? i with
    | some t => dueTruck i t
    | none => []

end Sys2Proof.Machine
end

