-- ==== Sys2Proof/Machine/Step.lean ====
section
/-! DEFINITION. One step: the command at the front of the queue, or, with none waiting, what the block does by itself. -/

namespace Sys2Proof.Machine

/-- What the block does while no command waits: the first event due, or one millisecond passes
(notes/assumptions/5.md). -/
def idle (s : State) : Host.Outcome State Fault Refusal :=
  match s.due with
  | i :: _ => exec i s
  | [] => .next (s.elapse 1)

/-- One step of the part. -/
def step (s : State) : Host.Outcome State Fault Refusal :=
  match s.pending with
  | i :: rest => exec i { s with pending := rest }
  | [] => idle s

/-- The state with the command a table word spells put at the front of its queue. -/
def State.withFetchWord (s : State) (nbits w : Nat) : State :=
  match decodeTableWord nbits w with
  | some i => { s with pending := i :: s.pending }
  | none => s

end Sys2Proof.Machine
end

