-- ==== Sys2Proof/Machine/Frames.lean ====
section
/-! DEFINITION. The bytes of the Control Link's frames: the check (R191), the bodies of requests read and written, and the
bodies of replies and notices (R202). -/

namespace Sys2Proof.Machine

/-! ### The form of a frame (R191) -/

/-- One bit of the check: polynomial x^16 + x^12 + x^5 + 1. -/
def crcBit (c : Half) : Half := if c.msb then (c <<< 1) ^^^ 0x1021 else c <<< 1

/-- One byte of the check, most significant bit first. -/
def crcByte (c : Half) (b : Byte) : Half := Nat.repeat crcBit 8 (c ^^^ (b.setWidth 16 <<< 8))

/-- The check of a run of bytes: initial value all ones, nothing reflected, no final value (R191). -/
def crc16 (bs : List Byte) : Half := bs.foldl crcByte 0xFFFF

/-- The length byte of a body. -/
def lengthByte (body : List Byte) : Byte := BitVec.ofNat 8 body.length

/-- The frame that carries a body (R191). -/
def frameOf (body : List Byte) : List Byte :=
  let c := crc16 (lengthByte body :: body)
  Config.syncByte :: lengthByte body :: body ++ [c.hi, c.lo]

/-! ### Fields -/

/-- A number in one byte. -/
def b1 (n : Nat) : List Byte := [BitVec.ofNat 8 n]

/-- A number in two bytes, high byte first. -/
def b2 (n : Nat) : List Byte := b1 (n / 256) ++ b1 n

/-- A number in three bytes, high byte first. -/
def b3 (n : Nat) : List Byte := b1 (n / 65536) ++ b2 n

/-- A number in four bytes, high byte first. -/
def b4 (n : Nat) : List Byte := b2 (n / 65536) ++ b2 n

/-- A flag or a mark (R202). -/
def bFlag (b : Bool) : List Byte := if b then [1] else [0]

/-- The mark of a value that may be absent. -/
def bMark {α : Type} (o : Option α) : List Byte := bFlag o.isSome

/-- A two-byte field as its bytes. -/
def halfBytes (h : Half) : List Byte := [h.hi, h.lo]

/-- A four-byte field as its bytes. -/
def fullBytes (f : Full) : List Byte := [f.byte 3, f.byte 2, f.byte 1, f.byte 0]

/-- A byte of a body; a byte the body does not have reads 0. -/
def byteAt (body : List Byte) (n : Nat) : Byte := body.getD n 0

/-- A two-byte field of a body. -/
def halfAt (body : List Byte) (n : Nat) : Half := half (byteAt body n) (byteAt body (n + 1))

/-- A four-byte field of a body. -/
def fullAt (body : List Byte) (n : Nat) : Full :=
  full (byteAt body n) (byteAt body (n + 1)) (byteAt body (n + 2)) (byteAt body (n + 3))

/-! ### Request bodies (R202) -/

/-- The request a body spells, by its kind byte. A body of another length than its kind's is spelled all the same, with
its length in the header: R195 answers it. -/
def requestOf (body : List Byte) : Instr :=
  let h : ReqHdr := ⟨byteAt body 1, body.length⟩
  let at1 := byteAt body
  let at2 := halfAt body
  match (byteAt body 0).toNat with
  | 0x01 => .configureSection h
      { sec := at1 2, lower := at2 3, upper := at2 5, feed := at2 7, f := at2 9, fp := at2 11, trip := at2 13
        heatLimit := fullAt body 15, r := at1 19, cap := at1 20, returnCeiling := at2 21, reclose := at1 23 }
  | 0x02 => .setLimits h
      { vMin := at2 2, vMax := at2 4, c := at2 6, z := at1 8, e := at1 9, shedDeadline := at2 10, raiseWindow := at2 12
        lowerWindow := at2 14, staleLimit := at2 16, slew := at2 18, unaccounted := at2 20, patienceLoaded := at1 22
        patienceEmpty := at1 23, patienceService := at1 24, arcLimit := at1 25, barTime := at2 26 }
  | 0x03 => .setCadence h (at1 2) (at2 3)
  | 0x04 => .scan h
  | 0x11 => .energize h (at1 2) (at1 3)
  | 0x12 => .deEnergize h (at1 2)
  | 0x13 => .clearLockout h (at1 2)
  | 0x20 => .enrol h { truck := at2 2, cls := at1 4, dir := at1 5, position := at2 6, speed := at1 8 }
  | 0x21 => .report h
      { truck := at2 2, position := at2 4, speed := at1 6, dir := at1 7, cls := at1 8, panto := at1 9
        current := at2 10, demand := at2 12, count := at1 14 }
  | 0x22 => .raise h (at2 2)
  | 0x23 => .depart h (at2 2)
  | 0x30 => .querySection h (at1 2)
  | 0x31 => .queryTruck h (at2 2)
  | 0x32 => .queryQueue h (at1 2)
  | 0x50 => .attend h
  | 0x51 => .ackAlert h
  | 0x52 => .maskSection h (at1 2) (at1 3)
  | 0x60 => .selfCheck h
  | 0x61 => .restart h
  | _ => .unknownKindRequest h (byteAt body 0)

/-- The fields of a section's settings as bytes. -/
def configBytes (x : ConfigFields) : List Byte :=
  [x.sec] ++ halfBytes x.lower ++ halfBytes x.upper ++ halfBytes x.feed ++ halfBytes x.f ++ halfBytes x.fp
  ++ halfBytes x.trip ++ fullBytes x.heatLimit ++ [x.r, x.cap] ++ halfBytes x.returnCeiling ++ [x.reclose]

/-- The fields of the limits as bytes. -/
def limitBytes (x : LimitFields) : List Byte :=
  halfBytes x.vMin ++ halfBytes x.vMax ++ halfBytes x.c ++ [x.z, x.e] ++ halfBytes x.shedDeadline
  ++ halfBytes x.raiseWindow ++ halfBytes x.lowerWindow ++ halfBytes x.staleLimit ++ halfBytes x.slew
  ++ halfBytes x.unaccounted ++ [x.patienceLoaded, x.patienceEmpty, x.patienceService, x.arcLimit]
  ++ halfBytes x.barTime

/-- The fields of an enrolment as bytes. -/
def enrolBytes (x : EnrolFields) : List Byte :=
  halfBytes x.truck ++ [x.cls, x.dir] ++ halfBytes x.position ++ [x.speed]

/-- The fields of a report as bytes. -/
def reportBytes (x : ReportFields) : List Byte :=
  halfBytes x.truck ++ halfBytes x.position ++ [x.speed, x.dir, x.cls, x.panto] ++ halfBytes x.current
  ++ halfBytes x.demand ++ [x.count]

/-- A request's body: kind, tag and fields. Of an unknown kind the fields are zeros. None for a command that is no
request. -/
def bodyOf : Instr → Option (List Byte)
  | .configureSection h x => some (0x01 :: h.tag :: configBytes x)
  | .setLimits h x => some (0x02 :: h.tag :: limitBytes x)
  | .setCadence h mode period => some (0x03 :: h.tag :: mode :: halfBytes period)
  | .scan h => some [0x04, h.tag]
  | .energize h sec allow => some [0x11, h.tag, sec, allow]
  | .deEnergize h sec => some [0x12, h.tag, sec]
  | .clearLockout h sec => some [0x13, h.tag, sec]
  | .enrol h x => some (0x20 :: h.tag :: enrolBytes x)
  | .report h x => some (0x21 :: h.tag :: reportBytes x)
  | .raise h truck => some (0x22 :: h.tag :: halfBytes truck)
  | .depart h truck => some (0x23 :: h.tag :: halfBytes truck)
  | .querySection h sec => some [0x30, h.tag, sec]
  | .queryTruck h truck => some (0x31 :: h.tag :: halfBytes truck)
  | .queryQueue h sec => some [0x32, h.tag, sec]
  | .attend h => some [0x50, h.tag]
  | .ackAlert h => some [0x51, h.tag]
  | .maskSection h sec setting => some [0x52, h.tag, sec, setting]
  | .selfCheck h => some [0x60, h.tag]
  | .restart h => some [0x61, h.tag]
  | .unknownKindRequest h kind => some (kind :: h.tag :: List.replicate (h.bodyLen - 2) 0)
  | .frameDiscarded _ | .frameBufferFull | .linkInterByteTimeout _ | .transmitFrameEnd | .reset _ _
  | .cadenceTimerExpiry | .scanCompletion _ | .fprScanEvaluation | .fsqScanEvaluation | .budgetCycleInputs
  | .budgetCyclePublication | .breakerFeedbackClosed _ | .breakerFeedbackOpen _ | .gapSensorActivation _
  | .gapSensorDeactivation _ | .stopActivation | .stopRelease | .raiseWindowExpiry _ | .lowerWindowExpiry _
  | .shedDeadlineExpiry _ | .stalePointPassed _ | .staleLower _ | .idleRelease _ | .arcTallyDecay _
  | .raiseBarExpiry _ | .testTimeout _ | .prechargeWindowExpiry _ | .closeConfirmExpiry _
  | .openConfirmationExpiry _ | .recloseTimerExpiry _ | .tripWindowExpiry _ | .inputFilterSampling _ => none

/-- A request's header, kind byte and the body length of its kind (R202); none for an unknown kind and for a command that is
no request. -/
def formOf : Instr → Option (ReqHdr × Byte × Nat)
  | .configureSection h _ => some (h, 0x01, 24)
  | .setLimits h _ => some (h, 0x02, 28)
  | .setCadence h _ _ => some (h, 0x03, 5)
  | .scan h => some (h, 0x04, 2)
  | .energize h _ _ => some (h, 0x11, 4)
  | .deEnergize h _ => some (h, 0x12, 3)
  | .clearLockout h _ => some (h, 0x13, 3)
  | .enrol h _ => some (h, 0x20, 9)
  | .report h _ => some (h, 0x21, 15)
  | .raise h _ => some (h, 0x22, 4)
  | .depart h _ => some (h, 0x23, 4)
  | .querySection h _ => some (h, 0x30, 3)
  | .queryTruck h _ => some (h, 0x31, 4)
  | .queryQueue h _ => some (h, 0x32, 3)
  | .attend h => some (h, 0x50, 2)
  | .ackAlert h => some (h, 0x51, 2)
  | .maskSection h _ _ => some (h, 0x52, 4)
  | .selfCheck h => some (h, 0x60, 2)
  | .restart h => some (h, 0x61, 2)
  | .unknownKindRequest _ _ => none
  | .frameDiscarded _ | .frameBufferFull | .linkInterByteTimeout _ | .transmitFrameEnd | .reset _ _
  | .cadenceTimerExpiry | .scanCompletion _ | .fprScanEvaluation | .fsqScanEvaluation | .budgetCycleInputs
  | .budgetCyclePublication | .breakerFeedbackClosed _ | .breakerFeedbackOpen _ | .gapSensorActivation _
  | .gapSensorDeactivation _ | .stopActivation | .stopRelease | .raiseWindowExpiry _ | .lowerWindowExpiry _
  | .shedDeadlineExpiry _ | .stalePointPassed _ | .staleLower _ | .idleRelease _ | .arcTallyDecay _
  | .raiseBarExpiry _ | .testTimeout _ | .prechargeWindowExpiry _ | .closeConfirmExpiry _
  | .openConfirmationExpiry _ | .recloseTimerExpiry _ | .tripWindowExpiry _ | .inputFilterSampling _ => none

/-! ### Codes (R202) -/

/-- Code of a class. -/
def TruckClass.code : TruckClass → Nat
  | .loaded => 0
  | .empty => 1
  | .service => 2

/-- Code of a direction, and of the sense of a grant: 0 draw, 1 return. -/
def Dir.code : Dir → Nat
  | .climb => 0
  | .descend => 1

/-- Code of a pantograph. -/
def Panto.code : Panto → Nat
  | .down => 0
  | .up => 1

/-- Code of a cadence mode. -/
def Cadence.code : Cadence → Nat
  | .off => 0
  | .periodic => 1
  | .single => 2

/-- Code of a contact state, by the table of R40. -/
def CState.code : CState → Nat
  | .enrolled => 1
  | .waiting => 2
  | .cleared => 3
  | .onWire => 4
  | .shedding => 5
  | .crossing => 6
  | .held => 7
  | .lowering => 8

/-- The contact state of a held context's prior state. -/
def Prior.state : Prior → CState
  | .cleared => .cleared
  | .onWire => .onWire
  | .shedding => .shedding
  | .crossing => .crossing

/-- Code of a feeder state. -/
def FState.code : FState → Nat
  | .unset => 1
  | .dead => 2
  | .testPending => 3
  | .testing => 4
  | .precharge => 5
  | .closing => 6
  | .live => 7
  | .tripped => 8
  | .lockedOut => 9

/-- Code of a cause, by its place in the table of R160. -/
def Cause.code : Cause → Nat
  | .reset => 1
  | .configured => 2
  | .deEnergize => 3
  | .testOccupied => 4
  | .testTimeout => 5
  | .stop => 6
  | .busTrip => 7
  | .restart => 8
  | .lockoutCleared => 9
  | .energize => 10
  | .reclose => 11
  | .lineClear => 12
  | .lineOccupied => 13
  | .precharged => 14
  | .closed => 15
  | .overcurrent => 16
  | .thermal => 17
  | .uncommandedOpen => 18
  | .lineFault => 19
  | .prechargeFail => 20
  | .closeFail => 21
  | .breakerStuck => 22
  | .repeatedTrip => 23

/-- Code of a link rate, by the table of R190. -/
def LinkRate.code : LinkRate → Nat
  | .r115200 => 0
  | .r230400 => 1
  | .r460800 => 2
  | .r921600 => 3

/-- Code of a reject reason, by the table of R195. -/
def Reason.code : Reason → Nat
  | .malformed => 1
  | .unknownKind => 2
  | .range => 3
  | .state => 4
  | .busy => 5
  | .duplicate => 6
  | .unknownTruck => 7
  | .full => 8
  | .queueFull => 9
  | .geometry => 10
  | .position => 11
  | .barred => 12
  | .stopped => 13
  | .busTripped => 14

/-- Code of a lowering reason, by the table of R52. -/
def LowerReason.code : LowerReason → Nat
  | .atEnd => 1
  | .shedLate => 2
  | .overrun => 3
  | .stale => 4
  | .contact => 5
  | .uncleared => 6
  | .direction => 7

/-- Code of an order, by the table of R62. -/
def Order.code : Order → Nat
  | .clearToRaise _ => 1
  | .raiseExpired => 2
  | .raiseCancelled => 3
  | .shed _ _ => 4
  | .lower _ _ => 5
  | .hold => 6
  | .resume _ _ => 7

/-! ### Notice bodies (R202) -/

/-- The reason field of an ORDER notice. -/
def Order.reason : Order → Nat
  | .lower r _ => r.code
  | .clearToRaise _ | .raiseExpired | .raiseCancelled | .shed _ _ | .hold | .resume _ _ => 0

/-- The state field of an ORDER notice. -/
def Order.stateCode : Order → Nat
  | .resume c _ => c.code
  | .clearToRaise _ | .raiseExpired | .raiseCancelled | .shed _ _ | .hold | .lower _ _ => 0

/-- The time value of an ORDER notice. -/
def Order.time : Order → Nat
  | .clearToRaise w => w
  | .shed d _ => d
  | .lower _ w => w
  | .raiseExpired | .raiseCancelled | .hold | .resume _ _ => 0

/-- The current value of an ORDER notice. -/
def Order.amps : Order → Nat
  | .shed _ c => c
  | .resume _ g => g
  | .clearToRaise _ | .raiseExpired | .raiseCancelled | .hold | .lower _ _ => 0

/-- A notice's body. -/
def Notice.body : Notice → List Byte
  | .grant i tag amps sense cycle => [0x41, 0] ++ b2 tag ++ b1 i ++ b2 amps ++ b1 sense.code ++ b2 cycle
  | .order i tag o cycle =>
    [0x42, 0] ++ b2 tag ++ b1 i ++ b1 o.code ++ b1 o.reason ++ b1 o.stateCode ++ b2 o.time ++ b2 o.amps ++ b2 cycle
  | .sec k state cause cycle => [0x43, 0] ++ b1 (k.val + 1) ++ b1 state.code ++ b1 cause.code ++ b2 cycle
  | .released i tag draw drawWraps ret retWraps cycle =>
    [0x44, 0] ++ b2 tag ++ b1 i ++ b4 draw ++ b1 drawWraps ++ b4 ret ++ b1 retWraps ++ b2 cycle

/-! ### Reply bodies (R202) -/

/-- The fields of QUERY-SECTION's ACCEPT. -/
def SectionView.bytes (v : SectionView) : List Byte :=
  b1 (v.sec.val + 1) ++ b1 v.state.code ++ b1 v.cause.code ++ b1 v.tripCount ++ bMark v.lastScan ++ b2 v.feederCurrent
  ++ b2 v.feedVoltage ++ b2 v.farVoltage ++ b2 (v.lastScan.getD 0) ++ b4 v.heat ++ b1 v.sag ++ bFlag v.unaccounted
  ++ b2 v.ceiling ++ b2 v.ceilingCycle ++ b1 v.onWire ++ b1 v.entries ++ bFlag v.busTrip ++ b2 v.cycle

/-- The held context of a contact state: prior state and prior grant. -/
def Contact.heldContext : Contact → Option (Prior × Nat)
  | .held p g => some (p, g)
  | _ => none

/-- The shed deadline of a contact state. -/
def Contact.shedLeft : Contact → Option Nat
  | .shedding _ d => some d
  | _ => none

/-- The fields of QUERY-TRUCK's ACCEPT. -/
def truckBytes (i : SlotIx) (t : Truck) (cycle : Nat) : List Byte :=
  b1 i ++ b2 t.tag ++ b1 t.cls.code ++ b1 t.dir.code ++ b1 (secNumber t.sec) ++ b2 t.reported ++ b2 t.est ++ b2 t.rem
  ++ b1 t.speed ++ b1 t.panto.code ++ b2 t.current ++ b2 t.demand ++ bMark t.lastCount ++ b1 (t.lastCount.getD 0)
  ++ b1 t.arc ++ bMark t.bar ++ b3 (t.bar.getD 0) ++ b2 t.age ++ b2 t.stalePoint ++ bFlag t.stale
  ++ b1 t.contact.state.code ++ b2 t.grant ++ bMark t.contact.heldContext
  ++ b1 ((t.contact.heldContext.map fun h => h.1.state.code).getD 0) ++ b2 ((t.contact.heldContext.map (·.2)).getD 0)
  ++ bMark t.firstCap ++ b2 (t.firstCap.getD 0) ++ bMark t.contact.shedLeft ++ b2 (t.contact.shedLeft.getD 0)
  ++ b4 t.drawMeter ++ b1 t.drawWraps ++ b4 t.retMeter ++ b1 t.retWraps ++ b2 cycle

/-- An entry record of QUERY-QUEUE: slot, truck tag, entry byte and countdown. -/
def EntryView.bytes (e : EntryView) : List Byte :=
  b1 e.slot ++ b2 e.tag
  ++ b1 (e.cls.code + 4 * e.dir.code + (if e.urgent then 8 else 0) + (if e.eligible then 16 else 0)) ++ b1 e.countdown

/-- Eight entry records, unused ones 0. -/
def entryBytes (es : List EntryView) : List Byte :=
  ((es.take Config.queueSize).flatMap EntryView.bytes)
  ++ List.replicate (5 * (Config.queueSize - (es.take Config.queueSize).length)) 0

/-- An optional truck tag: 0 where none is held. -/
def bTag (t : Option Nat) : List Byte := b2 (t.getD 0)

/-- The alert fields of ATTEND's ACCEPT. -/
def alertBytes : Option Alert → List Byte
  | some a =>
    [1] ++ b1 a.kind.rank ++ b1 (secNumber a.sec) ++ b2 a.cycle ++ bTag a.tag ++ bMark a.recur
    ++ b2 ((a.recur.map (·.1)).getD 0) ++ bTag (a.recur.bind (·.2))
  | none => List.replicate 12 0

/-- The fields of an ACCEPT, from body byte 3 on; none for a REJECT. -/
def ReplyData.fields : ReplyData → List Byte
  | .reject _ _ => []
  | .accept => []
  | .sectionState k st => b1 (k.val + 1) ++ b1 st.code
  | .cadence m p => b1 m.code ++ b2 p
  | .scanCount n => b2 n
  | .slot i => b1 i
  | .report i c g => b1 i ++ b1 c.code ++ b2 g
  | .raise i cleared => b1 i ++ b1 (if cleared then CState.cleared.code else CState.waiting.code)
  | .querySection v => v.bytes
  | .queryTruck i t cycle => truckBytes i t cycle
  | .queryQueue k st onWire cap es cycle =>
    b1 (k.val + 1) ++ b1 st.code ++ b1 onWire ++ b1 cap ++ b1 es.length ++ entryBytes es ++ b2 cycle
  | .attend a p u => alertBytes a ++ b1 p ++ b1 u
  | .ackAlert kind k back p u => b1 kind.rank ++ b1 (secNumber k) ++ bFlag back ++ b1 p ++ b1 u
  | .maskSection k m p u => b1 (k.val + 1) ++ bFlag m ++ b1 p ++ b1 u
  | .selfCheck r bad count fill slots rate bt cycle =>
    b2 r ++ b2 bad ++ b2 count ++ b1 fill ++ b1 slots ++ b1 rate.code ++ bFlag bt ++ b2 cycle

/-- A reply's body: ACCEPT or REJECT, the request's tag and kind, then the reason and seconds of a REJECT or the fields of
an ACCEPT. -/
def Reply.body (r : Reply) : List Byte :=
  match r.data with
  | .reject why seconds => [0x71, r.tag, r.kind] ++ b1 why.code ++ b2 seconds
  | d => [0x70, r.tag, r.kind] ++ d.fields

/-- The bytes of the frame the transmitter is sending: the reply of the oldest slot, or its notice (R198). -/
def Link.sending (l : Link) : Option (List Byte) :=
  match l.tx with
  | .idle => none
  | .reply => l.inbound.head?.map fun x => frameOf x.reply.body
  | .notice n _ => some (frameOf n.body)

end Sys2Proof.Machine
end

