-- ==== Sys2Proof/Machine/Line.lean ====
section
/-! DEFINITION. The receiver byte by byte (R192): how received bytes become the request commands of the operation table. The
commands themselves are whole frames; this says which bytes stand for which of them. -/

namespace Sys2Proof.Machine

/-- The body of a frame whose bytes from the length on are given, if its check matches (R192). -/
def checkedBody (bs : List Byte) : Option (List Byte) :=
  let n := bs.length
  let covered := bs.take (n - 2)
  if crc16 covered = half (byteAt bs (n - 2)) (byteAt bs (n - 1)) then some (covered.drop 1) else none

/-- The receiver after one byte, and the body of the frame that byte completes (R192). -/
def Rx.byte (x : Rx) (b : Byte) : Rx × Option (List Byte) :=
  match x with
  | .hunting => (if b = Config.syncByte then .length else .hunting, none)
  | .length =>
    if Config.minBody ≤ b.toNat ∧ b.toNat ≤ Config.maxBody then (.rest (b.toNat + 2) [b], none) else (.hunting, none)
  | .rest left taken =>
    match left with
    | n + 2 => (.rest (n + 1) (b :: taken), none)
    | _ => (.hunting, checkedBody (b :: taken).reverse)

/-- The receiver after a run of bytes, and the bodies of the frames they complete, in order of arrival. -/
def Rx.bytes (x : Rx) (bs : List Byte) : Rx × List (List Byte) :=
  match bs with
  | [] => (x, [])
  | b :: more =>
    let r := x.byte b
    let q := r.1.bytes more
    (q.1, r.2.toList ++ q.2)

/-- A byte received without error and in time: a frame it completes is taken as its request (R193), and a frame it ends
without a body is discarded (R192). -/
def receiveByte (b : Byte) (s : State) : Host.Outcome State Fault Refusal :=
  let r := s.link.rx.byte b
  let s := { s with link := { s.link with rx := r.1 } }
  match r.2 with
  | some body => exec (requestOf body) s
  | none => .next s

end Sys2Proof.Machine
end

