-- ==== Sys2Proof/Safety.lean ====
section
/-! DEFINITION. What a safe run of the part is, and the terms statements are made in: the parts of the state that a kind of
command leaves alone, what an answered request leaves in the link, and the promises of the manual that every state keeps
(R21, R27, R41, R118, R121, R143, R162, R170, R182, R198, R200). -/

namespace Sys2Proof.Machine

/-! ### What a command leaves alone -/

/-- Everything that no truck operation touches: all of the state but the roster, the sensor-seen marks, the cycle in
progress, the admission queues, the alerts and the notices. -/
structure Plant where
  now : Nat
  limits : Limits
  /-- The section records, their queues set aside. -/
  secs : SecIx → Sec
  source : Option SecIx
  waitList : List SecIx
  busTrip : Bool
  cycleNo : Nat
  bgeScans : List ScanResult
  fprScans : List ScanResult
  fsqScans : List ScanResult
  smp : Sampler
  ifl : InputFilter
  masks : Vector Bool 6
  rx : Rx
  inbound : List InSlot
  tx : Tx
  rate : LinkRate
  pending : List Instr

/-- The part of a state that no truck operation touches. -/
def State.plant (s : State) : Plant where
  now := s.now
  limits := s.limits
  secs := fun k => { s.secs[k] with queue := [] }
  source := s.source
  waitList := s.waitList
  busTrip := s.busTrip
  cycleNo := s.cycleNo
  bgeScans := s.bgeScans
  fprScans := s.fprScans
  fsqScans := s.fsqScans
  smp := s.smp
  ifl := s.ifl
  masks := s.alt.masks
  rx := s.link.rx
  inbound := s.link.inbound
  tx := s.link.tx
  rate := s.link.rate
  pending := s.pending

/-- What no feeder operation touches of it either: of the sections, their settings alone. -/
def Plant.outer (p : Plant) : Plant :=
  { p with
    secs := fun k => { Sec.reset with settings := (p.secs k).settings }
    source := none
    waitList := []
    busTrip := false }

/-- A state with the Control Link set aside. -/
def State.unlinked (s : State) : State := { s with link := .reset }

/-- The plant with the transmitter set aside: at the end of a command an idle transmitter may start a frame (R198). -/
def State.steady (s : State) : Plant := { s.plant with tx := .idle }

/-- A state with the transmitter and the notice queue set aside. -/
def State.quiet (s : State) : State := { s with link := { s.link with tx := .idle, notices := [] } }

/-- A roster slot with the grant of its record set aside. -/
def Slot.ungranted : Slot → Slot
  | .occupied t => .occupied { t with grant := 0 }
  | .free => .free
  | .releasePending => .releasePending

/-- Every slot but one holds what it held, its grant aside, and no grant there has risen: a return trim may have cut it
(R118). -/
def OthersKept (i : SlotIx) (s t : State) : Prop :=
  ∀ j : SlotIx, j ≠ i → t.roster[j].ungranted = s.roster[j].ungranted
    ∧ ∀ r r' : Truck, s.truck? j = some r → t.truck? j = some r' → r'.grant ≤ r.grant

/-- Nothing but one slot's record, the notices and the transmitter has changed. -/
def OnlyTruck (i : SlotIx) (s t : State) : Prop :=
  t.steady = s.steady ∧ t.alt = s.alt ∧ t.seen = s.seen ∧ (∀ k : SecIx, t.secs[k].queue = s.secs[k].queue)
  ∧ ∀ j : SlotIx, j ≠ i → t.roster[j] = s.roster[j]

/-- A notice is on its way: it waits in the queue, or is being sent. -/
def OnItsWay (n : Notice) (t : State) : Prop := n ∈ t.link.notices ∨ t.link.tx = .notice n false

/-- An alert is held for a kind and section, pending or in attendance (R182). -/
def AlertHeld (kind : AlertKind) (k : Option SecIx) (t : State) : Prop :=
  (∃ a ∈ t.alt.pending, a.kind = kind ∧ a.sec = k) ∨ ∃ a, t.alt.attended = some a ∧ a.kind = kind ∧ a.sec = k

/-- A request answered by an operation on trucks alone leaves the plant as it was, its own reply aside. -/
def PlantKept (s t : State) : Prop :=
  { t.plant with rx := s.link.rx, inbound := s.link.inbound, tx := s.link.tx } = s.plant

/-- The roster and what is kept with it are as they were. -/
def TrucksKept (s t : State) : Prop :=
  t.roster = s.roster ∧ t.seen = s.seen ∧ t.cycle = s.cycle ∧ ∀ k : SecIx, t.secs[k].queue = s.secs[k].queue

/-- A feeder operation leaves everything outside the sections' live records and the trucks as it was, the link's line
aside. -/
def OuterKept (s t : State) : Prop :=
  { t.plant.outer with rx := s.link.rx, inbound := s.link.inbound, tx := s.link.tx } = s.plant.outer

/-! ### What feeder commands bring about -/

/-- The trucks of a section that leaves LIVE are held (R58): each truck that is CLEARED, ON-WIRE, SHEDDING or CROSSING there
is HELD with the state and grant it had, and its ORDER HOLD is on its way. A CROSSING truck that stands in another section
takes that section, or none, where it is not LIVE. -/
def HeldFrom (k : SecIx) (s t : State) : Prop :=
  ∀ (i : SlotIx) (r : Truck) (p : Prior), s.truck? i = some r → r.sec = some k → r.contact.prior = some p →
    ((p ≠ .crossing ∨ s.sectionOf r.est = some k) →
      t.truck? i = some { r with contact := .held p r.grant, grant := 0 } ∧ OnItsWay (.order i r.tag .hold s.cycleNo) t)
    ∧ (p = .crossing → s.sectionOf r.est ≠ some k → (∀ j, s.sectionOf r.est = some j → s.isLive j = false) →
      let flags := s.zoneOf { r with sec := s.sectionOf r.est }
      t.truck? i = some { r with
        contact := .held p r.grant, grant := 0, sec := s.sectionOf r.est, zone := flags.1, inside := flags.2 }
      ∧ OnItsWay (.order i r.tag .hold s.cycleNo) t)

/-- What a fresh HELD truck `r` is restored to (R60, R61) from its prior state `p` and grant `prior`: CLEARED from CLEARED with
its pantograph down, else ON-WIRE outside its zone, SHEDDING inside the approach zone of a gap, and lowered inside an end zone.
`low` says that a report in the same command confirms the shedding (R67), `told` which notices are on their way. -/
def RestoredAt (told : Notice → Prop) (low : Prop) (i : SlotIx) (r r' : Truck) (p : Prior) (prior : Nat) (s : State) : Prop :=
  if p = .cleared ∧ r.panto = .down then
    r'.contact = .cleared s.limits.raiseWindow ∧ told (.order i r.tag (.resume .cleared prior) s.cycleNo)
  else match s.zoneOf r with
  | (_, false) => r'.contact = .onWire ∧ told (.order i r.tag (.resume .onWire prior) s.cycleNo)
  | (.approach g, true) => (low → r'.contact = .crossing g) ∧ (¬ low → r'.contact = .shedding g s.limits.shedDeadline)
      ∧ told (.order i r.tag (if p = .shedding ∨ p = .crossing then .resume .shedding prior
          else .shed s.limits.shedDeadline s.limits.c) s.cycleNo)
  | (.topEnd, true) | (.bottomEnd, true) => r'.contact = .lowering (some s.limits.lowerWindow)
      ∧ told (.order i r.tag (.lower .atEnd s.limits.lowerWindow) s.cycleNo)
  | (.none, true) => True

/-- A CROSSING truck of a section that alone leaves LIVE, standing in a LIVE section, is restored there at once with a grant
of 0 and its grant as its first-cycle cap (R58, R59). -/
def HeldAcross (k : SecIx) (s t : State) : Prop :=
  ∀ (i : SlotIx) (r : Truck) (g : GapIx) (j : SecIx), s.truck? i = some r → r.sec = some k → r.contact = .crossing g →
    s.sectionOf r.est = some j → j ≠ k → s.isLive j = true →
    ∃ r', t.truck? i = some r' ∧ r'.sec = some j ∧ r'.grant = 0 ∧ r'.firstCap = some r.grant ∧ r'.contact.state ≠ .held
      ∧ (r.age < 3 * r.stalePoint →
          RestoredAt (OnItsWay · t) False i { r with sec := some j } r' .crossing r.grant s)

/-- The test source and the wait list after a section has gone down (R162, R171): its place is given up, and a source it
owned goes to the head of the wait list, which starts its test with the cause and option it asked with. -/
def SourceLeft (k : SecIx) (s t : State) : Prop :=
  (s.source ≠ some k → t.source = s.source ∧ t.waitList = s.waitList.filter (fun x => decide (x ≠ k))
    ∧ ∀ j : SecIx, j ≠ k → t.secs[j].feeder = s.secs[j].feeder)
  ∧ (s.source = some k → s.waitList = [] → t.source = none ∧ t.waitList = []
    ∧ ∀ j : SecIx, j ≠ k → t.secs[j].feeder = s.secs[j].feeder)
  ∧ ∀ (h : SecIx) (q : List SecIx), s.source = some k → s.waitList = h :: q →
    t.source = some h ∧ t.waitList = q
    ∧ (∀ j : SecIx, j ≠ k → j ≠ h → t.secs[j].feeder = s.secs[j].feeder)
    ∧ ∀ a, s.phase h = .testPending a →
        t.secs[h].feeder = { s.secs[h].feeder with
          phase := .testing a [] (s.now + Config.testSettle) Config.testTimeout }
        ∧ OnItsWay (.sec h .testing s.secs[h].feeder.cause s.cycleNo) t

/-- A section has gone down from one feeder state to another by R171: the state and cause with the notice, an open
confirmation where MAIN-CLOSE was asserted, and its trucks held and its ceiling 0 where it was LIVE. -/
def WentDown (k : SecIx) (p : Phase) (c : Cause) (s t : State) : Prop :=
  t.secs[k].feeder = { s.secs[k].feeder with
    phase := p, cause := c
    openConfirm := if s.mainClose k then some Config.breakerConfirm else s.secs[k].feeder.openConfirm }
  ∧ OnItsWay (.sec k p.state c s.cycleNo) t
  ∧ (s.isLive k = true → t.secs[k].budget.ceiling = 0 ∧ HeldFrom k s t)
  ∧ SourceLeft k s t

/-- A LIVE section has tripped (R172, R173, R179): TRIPPED with its reclose timer at the first and second trip of a trip
window, LOCKED-OUT at the third. -/
def TrippedBy (k : SecIx) (c : Cause) (s t : State) : Prop :=
  t.secs[k].feeder =
    { phase := if 2 ≤ s.secs[k].feeder.tripCount then .lockedOut
        else .tripped (s.secs[k].settings.bind fun x => if 0 < x.reclose then some (1000 * x.reclose) else none) false
      cause := if 2 ≤ s.secs[k].feeder.tripCount then .repeatedTrip else c
      openConfirm := some 200
      tripCount := min (s.secs[k].feeder.tripCount + 1) 3
      tripWindow := if s.secs[k].feeder.tripCount = 0 then some 60000 else s.secs[k].feeder.tripWindow }
  ∧ t.secs[k].budget.ceiling = 0 ∧ HeldFrom k s t ∧ AlertHeld .trip (some k) t
  ∧ (2 ≤ s.secs[k].feeder.tripCount → AlertHeld .lockout (some k) t)

/-- A section's breaker has been found stuck (R169): LOCKED-OUT with BREAKER-STUCK, BUS-TRIP asserted, no test left and
every other active section DEAD with cause BUS-TRIP. -/
def StuckFound (k : SecIx) (s t : State) : Prop :=
  t.phase k = .lockedOut ∧ t.secs[k].feeder.cause = .breakerStuck
  ∧ t.busTripOut = true ∧ t.waitList = [] ∧ t.source = none
  ∧ AlertHeld .breakerStuck (some k) t ∧ (s.phase k ≠ .lockedOut → AlertHeld .lockout (some k) t)
  ∧ ∀ j : SecIx, j ≠ k →
      ((s.phase j).active = true → t.phase j = .dead ∧ t.secs[j].feeder.cause = .busTrip)
      ∧ ((s.phase j).active = false → t.secs[j].feeder = s.secs[j].feeder)

/-! ### What zones and gaps bring about

In these `r` is the truck with its new estimate, and still its old section and contact state; `told` says which notices are
on their way, and `low` that a report in the same command confirms a shedding (R67). -/

/-- The estimate reaches or passes the boundary of a section in a direction (R75, R84). -/
def Reaches (c : Settings) (d : Dir) (est : Nat) : Prop :=
  match d with
  | .climb => c.upper ≤ est
  | .descend => est ≤ c.lower

/-- The estimate lies beyond a section in a direction, so that R2 no longer gives that section (R70, R84). -/
def Beyond (c : Settings) (d : Dir) (est : Nat) : Prop :=
  match d with
  | .climb => c.upper ≤ est
  | .descend => est < c.lower

/-- GAP-OVERRUN is held for a section and for the configured one beside it at its upper or lower boundary (R75). -/
def OverrunRaised (k : SecIx) (up : Bool) (s t : State) : Prop :=
  AlertHeld .gapOverrun (some k) t
  ∧ ∀ j : SecIx, (if up then j.val = k.val + 1 else j.val + 1 = k.val) → s.secs[j].settings ≠ none →
      AlertHeld .gapOverrun (some j) t

/-- A truck has overrun a boundary of its section `k` (R75, R76): it is LOWERING with its order told, its section follows its
estimate, and the alert is held. -/
def Overran (told : Notice → Prop) (i : SlotIx) (r : Truck) (k : SecIx) (up : Bool) (s t : State) : Prop :=
  (∃ r', t.truck? i = some r' ∧ r'.contact = .lowering (some s.limits.lowerWindow) ∧ r'.grant = 0
    ∧ r'.sec = s.sectionOf r.est)
  ∧ told (.order i r.tag (.lower .overrun s.limits.lowerWindow) s.cycleNo) ∧ OverrunRaised k up s t

/-- What the zone of a fresh ON-WIRE truck makes of it (R50, R65): outside it the truck stays ON-WIRE, inside the approach zone
of a gap it sheds, and inside an end zone it is lowered. -/
def ZoneActs (told : Notice → Prop) (low : Prop) (i : SlotIx) (r r' : Truck) (s : State) : Prop :=
  match s.zoneOf r with
  | (_, false) => r'.contact = .onWire
  | (.approach g, true) => (low → r'.contact = .crossing g) ∧ (¬ low → r'.contact = .shedding g s.limits.shedDeadline)
      ∧ told (.order i r.tag (.shed s.limits.shedDeadline s.limits.c) s.cycleNo)
  | (.topEnd, true) | (.bottomEnd, true) => r'.contact = .lowering (some s.limits.lowerWindow)
      ∧ told (.order i r.tag (.lower .atEnd s.limits.lowerWindow) s.cycleNo)
  | (.none, true) => True

/-- A truck has been transferred across a gap (R73): its grant is 0 and it no longer crosses that gap. Where its estimate lies
in the section across, it is of that section: HELD with a prior grant of 0 where the section is not LIVE, else, if it is
fresh, as its zone there makes of an ON-WIRE truck, or overrun at the far end. -/
def Transferred (told : Notice → Prop) (low : Prop) (i : SlotIx) (g : GapIx) (r : Truck) (s t : State) : Prop :=
  let k := across g r.dir
  ∃ r', t.truck? i = some r' ∧ r'.est = r.est ∧ r'.grant = 0 ∧ (∀ f, r'.contact = .crossing f → low ∧ f ≠ g)
    ∧ (s.sectionOf r.est = some k → r'.sec = some k
        ∧ (s.isLive k = false → r'.contact = .held .onWire 0 ∧ told (.order i r.tag .hold s.cycleNo)))
    ∧ (s.isLive k = true → r.age < 3 * r.stalePoint → ∀ c, s.secs[k].settings = some c →
        (s.sectionOf r.est = some k → ¬ Reaches c r.dir r.est → ZoneActs told low i { r with sec := some k } r' s)
        ∧ (Reaches c r.dir r.est → Overran told i r k (decide (r.dir = .climb)) s t))

/-- The transfer of a CROSSING truck is due at its estimate (R71). -/
def TransferDue (g : GapIx) (r : Truck) (s : State) : Prop :=
  match r.dir with
  | .climb => s.gapPos g + s.limits.e ≤ r.est
  | .descend => r.est + s.limits.e ≤ s.gapPos g

/-- What a change of its estimate, to that of `r`, brings a truck, by its contact state (R64): position release (R34), the
clearance cancelled (R48), a HELD truck's move or restore (R59, R60, R78), a LOWERING truck's overrun (R77), and on the wire
the overrun (R75, R76), the transfer (R72) and the zone (R50, R65). A WAITING truck's move is the queues' (R93). -/
def Moves (told : Notice → Prop) (low : Prop) (i : SlotIx) (r : Truck) (s t : State) : Prop :=
  let new := s.sectionOf r.est
  let still := ∃ r', t.truck? i = some r' ∧ r'.contact = r.contact ∧ r'.sec = r.sec
  let onWire (k : SecIx) (c : Settings) (same : Prop) :=
    (Reaches c r.dir r.est → Overran told i r k (decide (r.dir = .climb)) s t)
    ∧ (¬ Reaches c r.dir r.est → new = some k → same)
    ∧ (¬ Reaches c r.dir r.est → new ≠ some k → Overran told i r k (decide (c.upper ≤ r.est)) s t)
  match r.contact with
  | .enrolled =>
    (s.beyondEnds r = true → t.roster[i] = .releasePending)
    ∧ (s.beyondEnds r = false → ∃ r', t.truck? i = some r' ∧ r'.contact = .enrolled ∧ r'.sec = new)
  | .waiting => True
  | .cleared _ =>
    (new = r.sec → still)
    ∧ (new ≠ r.sec → told (.order i r.tag .raiseCancelled s.cycleNo)
      ∧ (s.beyondEnds r = true ∨ 60000 ≤ r.age → t.roster[i] = .releasePending)
      ∧ (s.beyondEnds r = false → r.age < 60000 →
          ∃ r', t.truck? i = some r' ∧ r'.contact = .enrolled ∧ r'.sec = new ∧ r'.grant = 0))
  | .held p g =>
    (new = r.sec → still)
    ∧ (new ≠ r.sec → (∀ k, new = some k → s.isLive k = false) →
        ∃ r', t.truck? i = some r' ∧ r'.contact = r.contact ∧ r'.sec = new)
    ∧ ∀ k, new ≠ r.sec → new = some k → s.isLive k = true →
        ∃ r', t.truck? i = some r' ∧ r'.sec = some k ∧ r'.firstCap = some g ∧ r'.contact.state ≠ .held
          ∧ (r.age < 3 * r.stalePoint → RestoredAt told low i { r with sec := some k } r' p g s)
  | .lowering _ =>
    (∃ r', t.truck? i = some r' ∧ r'.contact = r.contact ∧ r'.sec = new)
    ∧ (r.panto = .up → s.limits.c < r.current → ∀ k c, r.sec = some k → s.secs[k].settings = some c → new ≠ some k →
        OverrunRaised k (decide (c.upper ≤ r.est)) s t)
    ∧ ((new = r.sec ∨ r.panto = .down ∨ r.current ≤ s.limits.c) → t.alt = s.alt)
  | .onWire => ∀ k c, r.sec = some k → s.secs[k].settings = some c → onWire k c
      (∃ r', t.truck? i = some r' ∧ (r.age < 3 * r.stalePoint → ZoneActs told low i r r' s))
  | .shedding g w => ∀ k c, r.sec = some k → s.secs[k].settings = some c → onWire k c
      (∃ r', t.truck? i = some r' ∧ (¬ low → r'.contact = .shedding g w)
        ∧ (low → r.age < 3 * r.stalePoint → r'.contact = .crossing g))
  | .crossing g => ∀ k c, r.sec = some k → s.secs[k].settings = some c →
      ((new = some k ∨ Beyond c r.dir r.est) → (¬ TransferDue g r s → still)
        ∧ (TransferDue g r s → Transferred told low i g r s t))
      ∧ (new ≠ some k → ¬ Beyond c r.dir r.est → Overran told i r k (decide (c.upper ≤ r.est)) s t)

/-! ### What a cycle shares out and applies -/

/-- A quantity of a slot's truck summed over the roster. -/
def State.slotSum (s : State) (f : SlotIx → Truck → Nat) : Nat :=
  (allSlots.map fun i => match s.truck? i with | some t => f i t | none => 0).sum

/-- A truck's demand in quanta, with its first-cycle cap (R109). -/
def Truck.quanta (t : Truck) : Nat :=
  match t.firstCap with
  | some cap => min (t.demand / 10) (cap / 10)
  | none => t.demand / 10

/-- A section's fresh ON-WIRE trucks that satisfy a test, with their demands (R109, R116). -/
def State.claims (s : State) (k : SecIx) (p : Truck → Bool) : List Claim :=
  allSlots.filterMap fun i => (s.truck? i).bind fun t =>
    if t.sec = some k ∧ t.contact = .onWire ∧ t.stale = false ∧ p t = true then some ⟨i, t.quanta, t.grant⟩ else none

/-- A truck's claim in the division of its class, or of the return pool. -/
def Truck.rival (t u : Truck) : Bool := decide (u.dir = t.dir ∧ (t.dir = .climb → u.cls = t.cls))

/-- The quanta that the classes before a truck's leave it of `q` (R110), or the return pool's `pr` (R116). -/
def State.share (s : State) (k : SecIx) (q pr : Nat) (t : Truck) : Nat :=
  let taken (c : TruckClass) := totalDemand (s.claims k fun u => decide (u.dir = .climb ∧ u.cls = c))
  match t.dir, t.cls with
  | .descend, _ => pr
  | .climb, .loaded => q
  | .climb, .empty => q - taken .loaded
  | .climb, .service => q - taken .loaded - taken .empty

/-- The grant a truck holds once a cycle's computed grants are applied (R120): the computed one, up to its demand, where the
truck has the section, direction and contact state the cycle took, is fresh and has been neither restored nor transferred. -/
def Cycle.applied (cy : Cycle) (i : SlotIx) (r : Truck) : Nat :=
  match cy.trucks[i], cy.grants[i] with
  | some n, some g =>
    if r.sec = n.sec ∧ r.dir = n.dir ∧ r.contact = n.contact ∧ r.stale = false ∧ n.restored = false
      ∧ n.transferred = false then min g r.demand else r.grant
  | _, _ => r.grant

/-- What a publication leaves a truck of a section (R120 to R122): the applied grant, less what the ceiling check takes of a
climbing truck in SHEDDING or CROSSING, or the return check of a descending one, each from the highest slot down. -/
def State.publishedGrant (s : State) (cy : Cycle) (k : SecIx) (o : SecOut) (i : SlotIx) (r : Truck) : Nat :=
  let sum (p : SlotIx → Truck → Bool) := s.slotSum fun j u => if u.sec = some k ∧ p j u = true then cy.applied j u else 0
  let a := cy.applied i r
  match r.dir with
  | .climb =>
    let excess := (sum (fun _ u => decide (u.dir = .climb)) - o.ceiling + 9) / 10 * 10
    let above := sum fun j u => decide (i < j ∧ u.dir = .climb) && u.contact.passing
    if r.contact.passing = true then a - min a (excess - above) else a
  | .descend =>
    let pool := (s.secs[k].settings).elim 0 fun c => min c.returnCeiling (s.drawSum k) / 10 * 10
    let excess := sum (fun _ u => decide (u.dir = .descend)) - pool
    let above := sum fun j u => decide (i < j ∧ u.dir = .descend)
    if o.cut = true ∧ r.contact.passing = true then 0 else a - min a (excess - above)

/-! ### Requests -/

/-- A request's frame is taken and handed to its owner (R193, R195): a slot is empty, the tag is not 0, and the body has
the length of its kind. -/
def Taken (h : ReqHdr) (len : Nat) (s : State) : Prop :=
  h.tag ≠ 0 ∧ h.bodyLen = len ∧ s.link.inbound.length < Config.inboundSlots

/-- What an answered request leaves in the link: the request and its reply in a slot behind those in use, and a transmitter
that sends a reply if it was idle (R193, R198). -/
def Answers (i : Instr) (h : ReqHdr) (kind : Byte) (d : ReplyData) (s t : State) : Prop :=
  t.link.rx = .hunting
  ∧ t.link.inbound = s.link.inbound ++ [⟨i, ⟨h.tag, kind, d⟩⟩]
  ∧ t.link.rate = s.link.rate
  ∧ t.link.tx = if s.link.tx = .idle then .reply else s.link.tx

/-- A request that is answered and changes nothing but the link. -/
def OnlyAnswers (i : Instr) (h : ReqHdr) (kind : Byte) (d : ReplyData) (s t : State) : Prop :=
  Answers i h kind d s t ∧ t.link.notices = s.link.notices ∧ t.unlinked = s.unlinked

/-! ### The Control Link's promises -/

/-- The key under which a notice waits (R199). -/
inductive NoticeKey where
  | grant (slot : SlotIx)
  | order (slot : SlotIx)
  | sec (k : SecIx)
  | released (slot : SlotIx)
  deriving DecidableEq, Repr

/-- A notice's key. -/
def Notice.key : Notice → NoticeKey
  | .grant i _ _ _ _ => .grant i
  | .order i _ _ _ => .order i
  | .sec k _ _ _ => .sec k
  | .released i _ _ _ _ _ _ => .released i

/-- The keys that wait in the notice queue. -/
def State.waitingKeys (s : State) : List NoticeKey := s.link.notices.map Notice.key

/-- No key waits twice, and a RELEASED notice that waits, or is being sent and will free its slot, names a slot that is
release pending (R36, R199 to R201). -/
def State.NoticesKept (s : State) : Prop :=
  s.waitingKeys.Nodup
  ∧ (∀ i : SlotIx, NoticeKey.released i ∈ s.waitingKeys → s.roster[i] = .releasePending)
  ∧ ∀ n : Notice, s.link.tx = .notice n false → ∀ i : SlotIx, n.key = .released i →
      s.roster[i] = .releasePending ∧ NoticeKey.released i ∉ s.waitingKeys

/-- The transmitter sends while a reply or a notice waits, and what it sends as a reply is held in a slot (R198); no more
than four requests are held (R193). -/
def State.LineBusy (s : State) : Prop :=
  (s.link.tx = .idle → s.link.inbound = [] ∧ s.link.notices = [])
  ∧ (s.link.tx = .reply → s.link.inbound ≠ [])
  ∧ s.link.inbound.length ≤ Config.inboundSlots

/-! ### The Alert List's promises -/

/-- The pair under which an alert is known (R182). -/
def Alert.pair (a : Alert) : AlertKind × Option SecIx := (a.kind, a.sec)

/-- The sections an alert kind is raised for (table of R181): section 0, a section, or either. -/
def AlertKind.fits : AlertKind → Option SecIx → Bool
  | .stop, k | .measureFault, k => k.isNone
  | .contactStuck, _ | .contactFault, _ => true
  | _, k => k.isSome

/-- A record holds a section its kind is raised for, and truck tags only where its kind carries one (R181). -/
def Alert.Lawful (a : Alert) : Prop :=
  a.kind.fits a.sec = true
  ∧ (a.kind.tagged = false → a.tag = none ∧ ∀ r, a.recur = some r → r.2 = none)

/-- No pair is pending twice, none is both pending and in attendance, the recurrence flag of a pending alert is clear, and
every record is lawful (R181 to R183). -/
def State.AlertsKept (s : State) : Prop :=
  (s.alt.pending.map Alert.pair).Nodup
  ∧ (∀ a ∈ s.alt.pending, a.Lawful ∧ a.recur = none)
  ∧ ∀ a, s.alt.attended = some a → a.Lawful ∧ a.pair ∉ s.alt.pending.map Alert.pair

/-! ### The Feeder Sequencer's promises -/

/-- A phase is TESTING. -/
def Phase.isTesting : Phase → Bool
  | .testing _ _ _ _ => true
  | _ => false

/-- A phase is TEST-PENDING. -/
def Phase.isTestPending : Phase → Bool
  | .testPending _ => true
  | _ => false

/-- The test source has one owner at a time: a section is TESTING exactly while it owns the source, TEST-PENDING exactly
while it stands in the wait list, and none waits while the source is free (R159, R162). -/
def State.SourceKept (s : State) : Prop :=
  (∀ k : SecIx, (s.phase k).isTesting = true ↔ s.source = some k)
  ∧ (∀ k : SecIx, (s.phase k).isTestPending = true ↔ k ∈ s.waitList)
  ∧ s.waitList.Nodup
  ∧ (s.source = none → s.waitList = [])

/-- BUS-TRIP is asserted exactly while a section is LOCKED-OUT with cause BREAKER-STUCK, and while it is asserted no
section is in TEST-PENDING through TRIPPED (R169, R170, R178). -/
def State.BusTripKept (s : State) : Prop :=
  (s.busTrip = true ↔ ∃ k : SecIx, s.phase k = .lockedOut ∧ s.secs[k].feeder.cause = .breakerStuck)
  ∧ (s.busTrip = true → ∀ k : SecIx,
      s.phase k = .unset ∨ s.phase k = .dead ∨ s.phase k = .lockedOut)

/-- A section is UNSET exactly while it holds no settings; its live values lie in the ranges the manual gives them
(R143, R149, R150, R153, R154, R159). -/
def State.ValuesKept (s : State) : Prop :=
  ∀ k : SecIx,
    (s.phase k = .unset ↔ s.secs[k].settings = none)
    ∧ Config.sagFloor ≤ s.secs[k].prot.sag ∧ s.secs[k].prot.sag ≤ Config.sagFull
    ∧ s.secs[k].prot.highRun ≤ Config.unaccPersistence ∧ s.secs[k].prot.lowRun ≤ Config.unaccPersistence
    ∧ (s.secs[k].prot.unaccounted = false → s.secs[k].prot.deduction = 0)
    ∧ s.secs[k].feeder.tripCount ≤ Config.tripLimit
    ∧ ∀ c, s.secs[k].settings = some c → s.secs[k].prot.heat ≤ c.heatLimit

/-- A section is UNSET exactly while it holds no settings (R2, R14). -/
def State.SettingsKept (s : State) : Prop := ∀ k : SecIx, s.phase k = .unset ↔ s.secs[k].settings = none

/-- A truck stands in an admission queue exactly while it is WAITING, then once, in the queue of its section, and no queue
holds more than 8 entries (R86). -/
def State.QueuesKept (s : State) : Prop :=
  ∀ k : SecIx,
    s.secs[k].queue.length ≤ Config.queueSize
    ∧ (s.secs[k].queue.map (·.slot)).Nodup
    ∧ ∀ i : SlotIx, i ∈ s.secs[k].queue.map (·.slot) ↔
        ∃ t, s.truck? i = some t ∧ t.contact = .waiting ∧ t.sec = some k

/-! ### The promises about grants -/

/-- A truck that is not in ON-WIRE, SHEDDING or CROSSING holds a grant of 0 (R41), and a cycle in progress has computed
grants only for trucks that were ON-WIRE at its inputs (R109, R114, R116). -/
def State.OffWireZero (s : State) : Prop :=
  (∀ (i : SlotIx) (t : Truck), s.truck? i = some t → t.contact.drawing = false → t.grant = 0)
  ∧ ∀ cy, s.cycle = some cy → ∀ (i : SlotIx) (n : TruckIn) (g : Nat),
      cy.grants[i] = some g → cy.trucks[i] = some n → n.contact = .onWire

/-- No truck's grant exceeds its demand as last reported (R21). -/
def State.WithinDemand (s : State) : Prop :=
  ∀ (i : SlotIx) (t : Truck), s.truck? i = some t → t.grant ≤ t.demand

/-- The crossing limit, the slew, and every truck's demand and grant, with the grants that a hold, a restore or a cycle in
progress has kept, are multiples of 10 A, and no demand is above 3,000 A (R10, R16, R19, R21, R113). -/
def State.QuantaKept (s : State) : Prop :=
  10 ∣ s.limits.c ∧ 10 ∣ s.limits.slew
  ∧ (∀ (i : SlotIx) (t : Truck), s.truck? i = some t →
      10 ∣ t.demand ∧ t.demand ≤ 3000 ∧ 10 ∣ t.grant ∧ (∀ g, t.firstCap = some g → 10 ∣ g)
      ∧ ∀ p g, t.contact = .held p g → 10 ∣ g)
  ∧ ∀ cy, s.cycle = some cy → ∀ (i : SlotIx) (g : Nat), cy.grants[i] = some g → 10 ∣ g

/-- A truck with no section, or in a section that is not LIVE, holds a grant of 0 (R121). -/
def State.DeadZero (s : State) : Prop :=
  ∀ (i : SlotIx) (t : Truck), s.truck? i = some t → (∀ k, t.sec = some k → s.isLive k = false) → t.grant = 0

/-- In a LIVE section the return grants sum to no more than the trim pool: the lesser of the return ceiling and the
currents its climbing trucks last reported, in whole quanta (R118). -/
def State.ReturnsCovered (s : State) : Prop :=
  ∀ k : SecIx, s.isLive k = true → s.grantSum k .descend ≤ s.trimPool k

/-- A stale truck holds a grant of 0 (R27). -/
def State.StaleZero (s : State) : Prop :=
  ∀ (i : SlotIx) (t : Truck), s.truck? i = some t → t.stale = true → t.grant = 0

/-- In a LIVE section the grants of the climbing trucks sum to no more than the published ceiling (R121). -/
def State.CeilingHeld (s : State) : Prop :=
  ∀ k : SecIx, s.isLive k = true → s.grantSum k .climb ≤ s.secs[k].budget.ceiling

/-- What a cycle has computed for a slot's truck as a climbing truck of a section, 0 where it computed nothing. -/
def Cycle.climbGrant (cy : Cycle) (k : SecIx) (i : SlotIx) : Nat :=
  match cy.trucks[i] with
  | some n => if n.sec = some k ∧ n.dir = .climb then (cy.grants[i]).getD 0 else 0
  | none => 0

/-- The cycle took a slot's truck as an ON-WIRE climbing truck of its section, computed a grant for it, and has not seen
it restored or transferred since. -/
def Cycle.Covers (cy : Cycle) (i : SlotIx) (t : Truck) : Prop :=
  ∃ n, cy.trucks[i] = some n ∧ n.sec = t.sec ∧ n.dir = .climb ∧ n.contact = .onWire ∧ n.restored = false
    ∧ n.transferred = false ∧ (cy.grants[i]).isSome = true

/-- A cycle in progress computed climbing grants within each ceiling it computed (R107 to R113), and it covers every
climbing ON-WIRE truck that holds a grant above 0. -/
def State.CycleSound (s : State) : Prop :=
  ∀ cy, s.cycle = some cy →
    (∀ (k : SecIx) (out : SecOut), cy.outs[k] = some out → (allSlots.map (cy.climbGrant k)).sum ≤ out.ceiling)
    ∧ ∀ (i : SlotIx) (t : Truck), s.truck? i = some t → t.contact = .onWire → t.dir = .climb → 0 < t.grant →
        cy.Covers i t

/-- What the manual promises of returned current, with what carries it from step to step (R41, R86, R118, R121, R162). -/
def State.ReturnSafe (s : State) : Prop :=
  s.SettingsKept ∧ s.QueuesKept ∧ s.SourceKept ∧ s.OffWireZero ∧ s.DeadZero ∧ s.ReturnsCovered

/-- What the manual promises of drawn current, with what carries it from step to step (R27, R41, R121, R162). -/
def State.DrawSafe (s : State) : Prop :=
  s.SettingsKept ∧ s.SourceKept ∧ s.OffWireZero ∧ s.DeadZero ∧ s.StaleZero ∧ s.CycleSound ∧ s.CeilingHeld

/-- The part is safe: its notices, alerts and test source are as the manual promises, and no truck is granted current that
it may not have. -/
def State.Safe (s : State) : Prop :=
  s.NoticesKept ∧ s.LineBusy ∧ s.AlertsKept ∧ s.BusTripKept ∧ s.ValuesKept ∧ s.WithinDemand ∧ s.QuantaKept
  ∧ s.ReturnSafe ∧ s.DrawSafe

end Sys2Proof.Machine
end

