-- ==== Sys2Proof/Certificates/Slice0/Obligations.lean ====
section
/-! DEFINITION. The statements for the provers. A statement about a request speaks of a frame that the link takes (`Taken`);
what becomes of other frames is stated once for all requests. Statements about an expiry speak of the state in which it
falls due, `s.elapse w` (notes/assumptions/6.md). -/

open Sys2Proof Sys2Proof.Machine

/-! ### Steps, frames and bytes -/

/-- A step takes the command at the front of the queue and runs it on the queue's rest. That all commands stand in one queue,
taken front first, is the model's choice (notes/assumptions/1.md). -/
def Obligations.StepTakesFrontCommand : Prop :=
  ∀ (c : Instr) (s : State), step { s with pending := c :: s.pending } = exec c s

/-- R202. A request's body has the length of its kind and spells the request again, with every field at every value; the
body of an unknown kind does so too. -/
def Obligations.RequestBodiesReadBack : Prop :=
  (∀ (i : Instr) (h : ReqHdr) (kind : Byte) (len : Nat), formOf i = some (h, kind, len) → h.bodyLen = len →
    ∃ b, bodyOf i = some b ∧ b.length = len ∧ byteAt b 0 = kind ∧ byteAt b 1 = h.tag ∧ requestOf b = i)
  ∧ ∀ (h : ReqHdr) (kind : Byte), requestKinds.contains kind = false → 2 ≤ h.bodyLen →
    ∃ b, bodyOf (.unknownKindRequest h kind) = some b ∧ b.length = h.bodyLen
      ∧ requestOf b = .unknownKindRequest h kind

/-- R191, R192. The bytes of a frame of any body of 2 to 60 bytes bring a hunting receiver back to hunting, and hand that
body on exactly when the two check bytes are the check over the length and the body. -/
def Obligations.FramesAreReceivedByTheirCheck : Prop :=
  ∀ (body : List Byte) (hi lo : Byte), 2 ≤ body.length → body.length ≤ 60 →
    Rx.hunting.bytes (Config.syncByte :: lengthByte body :: body ++ [hi, lo])
      = (.hunting, if crc16 (lengthByte body :: body) = half hi lo then [body] else [])

/-- R191, R202. Every notice and every reply has the body length of its kind, so every frame the part sends is 6 to 64
bytes long. -/
def Obligations.SentBodiesHaveTheirLengths : Prop :=
  (∀ (i : SlotIx) (tag g : Nat) (d : Dir) (c : Nat), (Notice.grant i tag g d c).body.length = 10)
  ∧ (∀ (i : SlotIx) (tag : Nat) (o : Order) (c : Nat), (Notice.order i tag o c).body.length = 14)
  ∧ (∀ (k : SecIx) (st : FState) (ca : Cause) (c : Nat), (Notice.sec k st ca c).body.length = 7)
  ∧ (∀ (i : SlotIx) (tag a b c d n : Nat), (Notice.released i tag a b c d n).body.length = 17)
  ∧ (∀ (t k : Byte) (d : ReplyData), (Reply.mk t k d).body.length =
      match d with
      | .reject _ _ => 6
      | .accept => 3
      | .sectionState _ _ => 5
      | .cadence _ _ => 6
      | .scanCount _ => 5
      | .slot _ => 4
      | .report _ _ _ => 7
      | .raise _ _ => 5
      | .querySection _ => 31
      | .queryTruck _ _ _ => 58
      | .queryQueue _ _ _ _ _ _ => 50
      | .attend _ _ _ => 17
      | .ackAlert _ _ _ _ _ => 8
      | .maskSection _ _ _ _ => 7
      | .selfCheck _ _ _ _ _ _ _ _ => 15)
  ∧ (∀ n : Notice, 2 ≤ n.body.length ∧ n.body.length ≤ 60) ∧ (∀ r : Reply, 2 ≤ r.body.length ∧ r.body.length ≤ 60)
  ∧ ∀ b : List Byte, (frameOf b).length = b.length + 4

/-! ### The Control Link -/

/-- R192, R193. A request's frame that finds all four slots holding requests, or whose body is not 2 to 60 bytes long, is
discarded, and so are the frames the receiver drops by itself: no reply, and nothing changes but that the receiver hunts
again, or takes the byte after a gap for a sync byte. That the discarding commands do so whatever the slots and the receiver
hold is the model's choice (notes/assumptions/19.md), and so is a request of 0, 1 or 61 bytes and more being such a frame
(notes/assumptions/21.md). -/
def Obligations.LostFramesChangeTheReceiverAlone : Prop :=
  ∀ (s : State), s.LineBusy →
    (∀ (c : Instr) (h : ReqHdr), c.hdr? = some h → (∀ kind, c = .unknownKindRequest h kind → requestKinds.contains kind = false) →
      (h.inFrame = false ∨ s.link.inbound.length = 4) →
      exec c s = .next { s with link := { s.link with rx := .hunting } })
    ∧ (∀ cause, exec (.frameDiscarded cause) s = .next { s with link := { s.link with rx := .hunting } })
    ∧ exec .frameBufferFull s = .next { s with link := { s.link with rx := .hunting } }
    ∧ ∀ b : Byte, exec (.linkInterByteTimeout b) s
        = .next { s with link := { s.link with rx := if b = 0xA5 then .length else .hunting } }

/-- R195. A request whose tag is 0, or whose body has not the length of its kind, is answered REJECT MALFORMED; an unknown
kind is answered REJECT UNKNOWN-KIND, or REJECT MALFORMED for tag 0. Nothing else changes. -/
def Obligations.MalformedAndUnknownAreRejected : Prop :=
  (∀ (c : Instr) (h : ReqHdr) (kind : Byte) (len : Nat) (s : State), formOf c = some (h, kind, len) →
    h.inFrame = true → s.link.inbound.length < 4 → (h.tag = 0 ∨ h.bodyLen ≠ len) →
    ∃ t, exec c s = .next t ∧ OnlyAnswers c h kind (.reject .malformed 0) s t)
  ∧ ∀ (h : ReqHdr) (kind : Byte) (s : State), requestKinds.contains kind = false → h.inFrame = true →
    s.link.inbound.length < 4 →
    ∃ t, exec (.unknownKindRequest h kind) s = .next t
      ∧ OnlyAnswers (.unknownKindRequest h kind) h kind
          (.reject (if h.tag = 0 then .malformed else .unknownKind) 0) s t

/-- R198, R201, R36. At the end of a reply its slot is emptied; at the end of a RELEASED notice its slot becomes free,
unless a RESTART was taken while it was sent. Then the oldest reply is sent, or else the notice at the head. -/
def Obligations.FrameEndSendsRepliesFirst : Prop :=
  ∀ (s : State), s.link.tx ≠ .idle →
    ∃ t, exec .transmitFrameEnd s = .next t
      ∧ t.link.inbound = (if s.link.tx = .reply then s.link.inbound.tail else s.link.inbound)
      ∧ t.link.tx = (if t.link.inbound ≠ [] then .reply
          else match s.link.notices with | n :: _ => .notice n false | [] => .idle)
      ∧ t.link.notices = (if t.link.inbound ≠ [] then s.link.notices else s.link.notices.tail)
      ∧ t.link.rx = s.link.rx ∧ t.link.rate = s.link.rate
      ∧ (∀ i : SlotIx, s.roster[i] = .releasePending → (∃ n, s.link.tx = .notice n false ∧ n.key = .released i) →
          t.roster[i] = .free)
      ∧ (∀ i : SlotIx, (s.roster[i] ≠ .releasePending ∨ ¬ ∃ n, s.link.tx = .notice n false ∧ n.key = .released i) →
          t.roster[i] = s.roster[i])
      ∧ { t with link := s.link, roster := s.roster } = s

/-- R199. A GRANT, ORDER or SECTION notice takes the place of a waiting notice of its kind and key; any other notice is
appended, and every other notice keeps its place. -/
def Obligations.NoticesReplaceInPlace : Prop :=
  ∀ (n : Notice) (q : List Notice), (q.map Notice.key).Nodup →
    (∀ j : Nat, j < q.length → (enqueue n q)[j]? =
      if q[j]?.map Notice.key = some n.key ∧ (∀ i, n.key ≠ .released i) then some n else q[j]?)
    ∧ (if n.key ∈ q.map Notice.key ∧ ∀ i, n.key ≠ .released i then (enqueue n q).length = q.length
       else enqueue n q = q ++ [n])

/-- R36, R199, R200, R201. The notice queue keeps one notice per key, and a RELEASED notice that waits or will free its slot
names a slot that is release pending: every step keeps it. So the queue never holds more than 54 notices. -/
def Obligations.EveryStepKeepsNoticeKeys : Prop :=
  (∀ s t : State, s.NoticesKept → step s = .next t → t.NoticesKept)
  ∧ ∀ s : State, s.NoticesKept → s.link.notices.length ≤ 54

/-- R193, R198. After every step no reply and no notice waits beside an idle transmitter, and no more than four requests
are held. -/
def Obligations.EveryStepKeepsTheLineBusy : Prop :=
  ∀ s t : State, s.LineBusy → step s = .next t → t.LineBusy

/-- The part right after reset satisfies every promise that statements carry from step to step. -/
def Obligations.ResetIsSafe : Prop := State.reset.Safe

/-- R196, R37, R97, R197. QUERY-SECTION, QUERY-TRUCK, QUERY-QUEUE and SELF-CHECK answer with what they read and change
nothing else. -/
def Obligations.QueriesChangeNothing : Prop :=
  (∀ (h : ReqHdr) (sec : Byte) (k : SecIx) (s : State), Taken h 3 s → secOf sec = some k →
    ∃ t, exec (.querySection h sec) s = .next t
      ∧ OnlyAnswers (.querySection h sec) h 0x30 (.querySection
          { sec := k, state := (s.phase k).state, cause := s.secs[k].feeder.cause
            tripCount := s.secs[k].feeder.tripCount, feederCurrent := s.secs[k].prot.feederCurrent
            feedVoltage := s.secs[k].prot.feedVoltage, farVoltage := s.secs[k].prot.farVoltage
            lastScan := s.secs[k].prot.lastScan, heat := s.secs[k].prot.heat, sag := s.secs[k].prot.sag
            unaccounted := s.secs[k].prot.unaccounted, ceiling := s.secs[k].budget.ceiling
            ceilingCycle := s.secs[k].budget.ceilingCycle, onWire := s.onWireCount k
            entries := s.secs[k].queue.length, busTrip := s.busTrip, cycle := s.cycleNo }) s t)
  ∧ (∀ (h : ReqHdr) (tag : Half) (i : SlotIx) (r : Truck) (s : State), Taken h 4 s →
      s.slotOf tag.toNat = some i → s.truck? i = some r →
    ∃ t, exec (.queryTruck h tag) s = .next t
      ∧ OnlyAnswers (.queryTruck h tag) h 0x31 (.queryTruck i r s.cycleNo) s t)
  ∧ (∀ (h : ReqHdr) (sec : Byte) (k : SecIx) (s : State), Taken h 3 s → secOf sec = some k →
    ∃ t cap es, exec (.queryQueue h sec) s = .next t
      ∧ OnlyAnswers (.queryQueue h sec) h 0x32
          (.queryQueue k (s.phase k).state (s.onWireCount k) cap es s.cycleNo) s t
      ∧ cap = (match s.secs[k].settings with | some c => c.cap | none => 0)
      ∧ es = s.secs[k].queue.filterMap fun e => (s.truck? e.slot).map fun r =>
          ⟨e.slot, r.tag, r.cls, r.dir, e.countdown, e.urgent, r.bar.isNone && !r.inside⟩)
  ∧ ∀ (h : ReqHdr) (s : State), Taken h 2 s →
    ∃ t, exec (.selfCheck h) s = .next t
      ∧ OnlyAnswers (.selfCheck h) h 0x60
          (.selfCheck (match s.smp.last with | some r => r.code 0 | none => 0) s.smp.badRun s.smp.count
            s.link.notices.length (s.link.inbound.length + 1) s.link.rate s.busTrip s.cycleNo) s t

/-- R203, R158, R201. RESTART empties the roster, the admission queues, the sensor-seen marks and the notice queue, makes a
notice in transmission void, leaves no section in TEST-PENDING through TRIPPED, clears trims, unaccounted state and fixed
loads, and keeps settings, heat accounts, last measured values, pointers, live periods, limits and Sampler. That the scan
results waiting for Feeder Protection and the Feeder Sequencer are kept too is the model's choice
(notes/assumptions/9.md). -/
def Obligations.RestartEmptiesAndKeeps : Prop :=
  ∀ (h : ReqHdr) (s : State), Taken h 2 s → s.SourceKept →
    ∃ t, exec (.restart h) s = .next t
      ∧ t.link.rx = .hunting ∧ t.link.inbound = s.link.inbound ++ [⟨.restart h, ⟨h.tag, 0x61, .accept⟩⟩]
      ∧ t.link.notices = [] ∧ t.link.rate = s.link.rate
      ∧ t.link.tx = (match s.link.tx with | .notice n _ => .notice n true | .idle | .reply => .reply)
      ∧ (∀ i : SlotIx, t.roster[i] = .free) ∧ (∀ g : GapIx, t.seen[g] = none)
      ∧ t.source = none ∧ t.waitList = [] ∧ t.busTrip = s.busTrip
      ∧ (∀ k : SecIx, t.secs[k].queue = [] ∧ t.secs[k].settings = s.secs[k].settings
          ∧ t.secs[k].prot = { s.secs[k].prot with
              sag := 8, lastDraw := 0, highRun := 0, lowRun := 0, unaccounted := false, deduction := 0, fixedLoad := 0 }
          ∧ t.secs[k].feeder.tripCount = 0 ∧ t.secs[k].feeder.tripWindow = none
          ∧ (s.isLive k = true → t.secs[k].budget = { s.secs[k].budget with ceiling := 0, ceilingCycle := s.cycleNo })
          ∧ (s.isLive k = false → t.secs[k].budget = s.secs[k].budget)
          ∧ ((s.phase k).active = true → t.phase k = .dead ∧ t.secs[k].feeder.cause = .restart
              ∧ t.secs[k].feeder.openConfirm = if s.mainClose k then some 200 else s.secs[k].feeder.openConfirm)
          ∧ ((s.phase k).active = false → t.phase k = s.phase k ∧ t.secs[k].feeder.cause = s.secs[k].feeder.cause
              ∧ t.secs[k].feeder.openConfirm = s.secs[k].feeder.openConfirm))
      ∧ (∀ cy, t.cycle = some cy → cy.discard = true ∧ ∀ i : SlotIx, cy.trucks[i] = none) ∧ t.cycle.isSome = s.cycle.isSome
      ∧ t.alt.attended = none ∧ t.alt.masks = s.alt.masks
      ∧ (∀ a ∈ t.alt.pending, (a.kind = .lockout ∨ a.kind = .breakerStuck) ∧ a.cycle = s.cycleNo ∧ a.recur = none)
      ∧ (∀ k : SecIx, AlertHeld .lockout (some k) t ↔ s.phase k = .lockedOut)
      ∧ (∀ k : SecIx, AlertHeld .breakerStuck (some k) t ↔
          s.phase k = .lockedOut ∧ s.secs[k].feeder.cause = .breakerStuck)
      ∧ t.limits = s.limits ∧ t.smp = s.smp ∧ t.ifl = s.ifl ∧ t.cycleNo = s.cycleNo ∧ t.now = s.now
      ∧ t.bgeScans = s.bgeScans ∧ t.fprScans = s.fprScans ∧ t.fsqScans = s.fsqScans ∧ t.pending = s.pending

/-- R14, R38, R129, R142, R180, R188, R190, R204. RESET leaves every section UNSET, the limits at their defaults, the
roster, queues, alerts, waiting scan results and link empty, every live value of a section at its start, the filters empty
and open, and the link at the rate of the straps. The time base and the waiting commands go on (notes/assumptions/3.md), and
the ceiling of a section shows cycle number 0 (notes/assumptions/4.md): the model's choices. -/
def Obligations.ResetReturnsEveryBlock : Prop :=
  ∀ (a b : Bool) (s : State),
    ∃ t, exec (.reset a b) s = .next t
      ∧ (∀ k : SecIx, t.secs[k].settings = none ∧ t.secs[k].feeder = ⟨.unset, .reset, none, 0, none⟩
          ∧ t.secs[k].prot =
              { feederCurrent := 0, feedVoltage := 0, farVoltage := 0, lastScan := none, heat := 0, sag := 8, lastDraw := 0
                highRun := 0, lowRun := 0, unaccounted := false, deduction := 0, fixedLoad := 0 }
          ∧ t.secs[k].budget = ⟨0, 0, 0, 0⟩ ∧ t.secs[k].queue = []
          ∧ t.mainClose k = false ∧ t.prechargeClose k = false ∧ t.testEnable k = false)
      ∧ t.limits = ⟨1900, 3000, 100, 40, 10, 1500, 5000, 5000, 2000, 400, 300, 10, 30, 60, 6, 60⟩
      ∧ (∀ i : SlotIx, t.roster[i] = .free) ∧ (∀ g : GapIx, t.seen[g] = none)
      ∧ t.source = none ∧ t.waitList = [] ∧ t.busTripOut = false ∧ t.cycleNo = 0 ∧ t.cycle = none
      ∧ t.smp.mode = .off ∧ t.smp.period = 100 ∧ t.smp.timer = none ∧ t.smp.inFlight = none ∧ t.smp.dtBase = none
      ∧ t.smp.last = none ∧ t.smp.badRun = 0 ∧ t.smp.count = 0
      ∧ (∀ k : SecIx, t.ifl.breakers[k] = ⟨none, none, false⟩) ∧ (∀ g : GapIx, t.ifl.gaps[g] = ⟨none, none, false⟩)
      ∧ t.ifl.stop = ⟨none, none, false⟩ ∧ t.ifl.timer = 2 ∧ t.ifl.handed = []
      ∧ t.bgeScans = [] ∧ t.fprScans = [] ∧ t.fsqScans = []
      ∧ t.alt.pending = [] ∧ t.alt.attended = none ∧ (∀ k : SecIx, t.alt.masks[k] = false) ∧ t.alertOut = false
      ∧ t.link.rx = .hunting ∧ t.link.inbound = [] ∧ t.link.notices = [] ∧ t.link.tx = .idle ∧ t.ready = true
      ∧ t.link.rate = (match a, b with
          | false, false => .r115200 | true, false => .r230400 | false, true => .r460800 | true, true => .r921600)
      ∧ t.now = s.now ∧ t.pending = s.pending

/-! ### The Alert List -/

/-- R183. Raising an alert makes a record where its pair is absent, changes nothing where it is pending, and marks the
recurrence where it is in attendance; nothing but the Alert List changes, and no mask matters. -/
def Obligations.RaisingActsByWhereThePairStands : Prop :=
  ∀ (kind : AlertKind) (k : Option SecIx) (tag : Option Nat) (s : State),
    { s.raiseAlert kind k tag with alt := s.alt } = s
    ∧ ((kind, k) ∉ s.alt.pending.map Alert.pair → (∀ a, s.alt.attended = some a → a.pair ≠ (kind, k)) →
        (s.raiseAlert kind k tag).alt = { s.alt with pending := s.alt.pending ++
          [⟨kind, k, s.cycleNo, if kind ∈ [.gapOverrun, .contactStuck, .contactFault] then tag else none, none⟩] })
    ∧ ((kind, k) ∈ s.alt.pending.map Alert.pair → (∀ a, s.alt.attended = some a → a.pair ≠ (kind, k)) →
        (s.raiseAlert kind k tag).alt = s.alt)
    ∧ ∀ a, s.alt.attended = some a → a.pair = (kind, k) →
        (s.raiseAlert kind k tag).alt = { s.alt with attended := some { a with
          recur := some (s.cycleNo, if kind ∈ [.gapOverrun, .contactStuck, .contactFault] then tag else none) } }

/-- R184. ATTEND returns the alert in attendance again; with none, it moves the pending unmasked alert of the highest rank,
the lowest section between equals, into attendance; with none of those, it says so. -/
def Obligations.AttendFetchesTheBestAlert : Prop :=
  ∀ (h : ReqHdr) (s : State), Taken h 2 s →
    ∃ t, exec (.attend h) s = .next t
      ∧ OnlyAnswers (.attend h) h 0x50 (.attend t.alt.attended t.alt.pending.length t.alt.unmasked.length)
          { s with alt := t.alt } t
      ∧ t.alt.masks = s.alt.masks ∧ (t.alertOut = true ↔ 0 < t.alt.unmasked.length)
      ∧ (∀ a, s.alt.attended = some a → t.alt = s.alt)
      ∧ (s.alt.attended = none → s.alt.unmasked = [] → t.alt = s.alt)
      ∧ (s.alt.attended = none → s.alt.unmasked ≠ [] →
          ∃ b ∈ s.alt.unmasked, t.alt.attended = some b ∧ t.alt.pending = s.alt.pending.erase b
            ∧ ∀ c ∈ s.alt.unmasked, b.kind.rank < c.kind.rank
                ∨ (b.kind.rank = c.kind.rank ∧ secNumber b.sec ≤ secNumber c.sec))

/-- R185. ACK-ALERT empties the attendance; a record whose recurrence flag is set returns to the pending alerts with its
recurrence's cycle number and tag. With nothing in attendance it is refused. -/
def Obligations.AcknowledgingReturnsARecurrence : Prop :=
  ∀ (h : ReqHdr) (s : State), Taken h 2 s →
    (s.alt.attended = none →
      ∃ t, exec (.ackAlert h) s = .next t ∧ OnlyAnswers (.ackAlert h) h 0x51 (.reject .state 0) s t)
    ∧ ∀ a, s.alt.attended = some a →
      ∃ t, exec (.ackAlert h) s = .next t
        ∧ OnlyAnswers (.ackAlert h) h 0x51
            (.ackAlert a.kind a.sec a.recur.isSome t.alt.pending.length t.alt.unmasked.length) { s with alt := t.alt } t
        ∧ t.alt.attended = none ∧ t.alt.masks = s.alt.masks ∧ (t.alertOut = true ↔ 0 < t.alt.unmasked.length)
        ∧ (a.recur = none → t.alt.pending = s.alt.pending)
        ∧ ∀ c g, a.recur = some (c, g) → t.alt.pending = s.alt.pending ++ [⟨a.kind, a.sec, c, g, none⟩]

/-- R186, R187. MASK-SECTION sets one mask and moves no alert; another section number or setting is refused. The ALERT
output is asserted exactly while a pending alert is not masked, and section 0 never is. -/
def Obligations.MasksHidePendingAlerts : Prop :=
  (∀ (h : ReqHdr) (sec setting : Byte) (s : State), Taken h 4 s →
    (∀ (k : SecIx) (on : Bool), sec.toNat = k.val + 1 → setting.toNat = (if on then 1 else 0) →
      ∃ t, exec (.maskSection h sec setting) s = .next t
        ∧ OnlyAnswers (.maskSection h sec setting) h 0x52
            (.maskSection k on s.alt.pending.length t.alt.unmasked.length) { s with alt := t.alt } t
        ∧ t.alt = { s.alt with masks := t.alt.masks }
        ∧ t.alt.masks[k] = on ∧ ∀ j : SecIx, j ≠ k → t.alt.masks[j] = s.alt.masks[j])
    ∧ ((sec.toNat = 0 ∨ 6 < sec.toNat ∨ 1 < setting.toNat) →
      ∃ t, exec (.maskSection h sec setting) s = .next t
        ∧ OnlyAnswers (.maskSection h sec setting) h 0x52 (.reject .range 0) s t))
  ∧ ∀ s : State, s.alertOut = true ↔
      ∃ a ∈ s.alt.pending, ∀ k, a.sec = some k → s.alt.masks[k] = false

/-- R181, R182. No pair of kind and section is pending twice or both pending and in attendance, and every record is one
that R181 allows: every step keeps it. -/
def Obligations.EveryStepKeepsAlertPairs : Prop :=
  ∀ s t : State, s.AlertsKept → step s = .next t → t.AlertsKept

/-! ### Settings and limits -/

/-- R5, R6, R7, R8. The checks of CONFIGURE-SECTION in their order: range, state, geometry, occupancy. The first that fails
is the reason of the REJECT, and nothing changes. The geometry check asks for the bounds of the configured neighbours, and
for a configured neighbour below; the occupancy check asks that bounds and feed point stay, or that no truck has the
section. -/
def Obligations.ConfigureIsRefusedInOrder : Prop :=
  (∀ (h : ReqHdr) (x : ConfigFields) (s : State), Taken h 24 s →
    let refused (why : Reason) := ∃ t, exec (.configureSection h x) s = .next t
      ∧ OnlyAnswers (.configureSection h x) h 0x01 (.reject why 0) s t
    (secOf x.sec = none → refused .range)
    ∧ ∀ k, secOf x.sec = some k →
      ((settingsOf x).inRange = false → refused .range)
      ∧ ((settingsOf x).inRange = true →
        (s.phase k ≠ .unset → s.phase k ≠ .dead → refused .state)
        ∧ (s.phase k = .unset ∨ s.phase k = .dead →
          (s.fitsNeighbours k (settingsOf x) = false → refused .geometry)
          ∧ (s.fitsNeighbours k (settingsOf x) = true → s.mayMove k (settingsOf x) = false → refused .busy))))
  ∧ (∀ (k : SecIx) (c : Settings) (s : State), s.fitsNeighbours k c = true ↔
      (∀ j : SecIx, j.val + 1 = k.val → ∃ b, s.secs[j].settings = some b ∧ c.lower = b.upper)
      ∧ ∀ (j : SecIx) (a : Settings), j.val = k.val + 1 → s.secs[j].settings = some a → c.upper = a.lower)
  ∧ (∀ (k : SecIx) (c : Settings) (s : State), s.mayMove k c = true ↔
      (∃ o, s.secs[k].settings = some o ∧ c.lower = o.lower ∧ c.upper = o.upper ∧ c.feed = o.feed)
      ∨ ∀ (i : SlotIx) (r : Truck), s.truck? i = some r → r.sec ≠ some k)
  ∧ ∀ c : Settings, c.inRange = true ↔
      c.lower ≤ 8190 ∧ c.lower + 100 ≤ c.upper ∧ c.upper ≤ c.lower + 2000 ∧ c.upper ≤ 8191
      ∧ c.lower ≤ c.feed ∧ c.feed ≤ c.upper
      ∧ 500 ≤ c.f ∧ c.f ≤ 6000 ∧ 10 ∣ c.f
      ∧ c.f ≤ c.fp ∧ c.fp ≤ 2 * c.f ∧ c.fp ≤ 9000 ∧ 10 ∣ c.fp
      ∧ c.fp + 10 ≤ c.trip ∧ c.trip ≤ 10000 ∧ 10 ∣ c.trip
      ∧ 1000000 ≤ c.heatLimit ∧ c.heatLimit ≤ 2000000000
      ∧ 5 ≤ c.r ∧ c.r ≤ 200 ∧ 1 ≤ c.cap ∧ c.cap ≤ 8
      ∧ c.returnCeiling ≤ 3000 ∧ 10 ∣ c.returnCeiling ∧ c.reclose ≤ 30

/-- R3, R9, R168. An accepted CONFIGURE-SECTION replaces all settings. An UNSET section becomes DEAD with a new live state and a
SECTION notice, or is found with its breaker stuck where its feedback reads closed; a DEAD one keeps its state, its heat held
to the new limit. No other section's settings or live state changes but by a stuck breaker, and every ENROLLED truck's
section is found again. A first configuration takes the changes of sensors that had no gap off the model's list of changes
handed over (notes/assumptions/7.md), as R3 has it. That it keeps the cycle number of the ceiling is the model's choice
(notes/assumptions/4.md); the protection values it leaves alone (notes/assumptions/14.md) and the reply before the notices
(notes/assumptions/8.md) are its readings. -/
def Obligations.ConfigureReplacesTheSettings : Prop :=
  (∀ (h : ReqHdr) (x : ConfigFields) (k : SecIx) (s : State), Taken h 24 s → secOf x.sec = some k →
    (settingsOf x).inRange = true → s.fitsNeighbours k (settingsOf x) = true → s.mayMove k (settingsOf x) = true →
    ((s.phase k = .unset ∧ s.secs[k].settings = none ∧ s.feedbackClosed k = false)
      ∨ (s.phase k = .dead ∧ s.secs[k].settings ≠ none)) →
    ∃ t, exec (.configureSection h x) s = .next t
      ∧ Answers (.configureSection h x) h 0x01 (.sectionState k .dead) s t
      ∧ t.secs[k].settings = some (settingsOf x) ∧ t.phase k = .dead
      ∧ (s.phase k = .unset →
          t.secs[k].feeder.cause = .configured ∧ t.secs[k].feeder.tripCount = 0
          ∧ t.secs[k].prot = { s.secs[k].prot with heat := 0, sag := 8, unaccounted := false, deduction := 0 }
          ∧ t.secs[k].budget = { s.secs[k].budget with ceiling := 0, pointer := 0, livePeriod := 0 }
          ∧ t.ifl = { s.ifl with handed := s.ifl.handed.filter fun c => match c with
              | .gap g _ => s.gapExists g
              | .breaker _ _ | .stop _ => true }
          ∧ Notice.sec k .dead .configured s.cycleNo ∈ t.link.notices)
      ∧ (s.phase k = .dead →
          t.secs[k].feeder = s.secs[k].feeder ∧ t.secs[k].budget = s.secs[k].budget ∧ t.ifl = s.ifl
          ∧ t.secs[k].prot = { s.secs[k].prot with heat := min s.secs[k].prot.heat (settingsOf x).heatLimit })
      ∧ t.busTrip = s.busTrip ∧ t.source = s.source ∧ t.waitList = s.waitList
      ∧ (∀ j : SecIx, j ≠ k → t.plant.secs j = s.plant.secs j)
      ∧ { t.plant with
          secs := s.plant.secs, ifl := s.ifl, rx := s.link.rx, inbound := s.link.inbound, tx := s.link.tx } = s.plant
      ∧ (∀ (i : SlotIx) (r r' : Truck), s.truck? i = some r → r.contact = .enrolled → t.truck? i = some r' →
          r'.est = r.est ∧ r'.sec = t.sectionOf r.est)
      ∧ ((∀ i : SlotIx, s.truck? i = none) →
          t.roster = s.roster ∧ t.seen = s.seen ∧ t.cycle = s.cycle ∧ t.alt = s.alt))
  ∧ ∀ (h : ReqHdr) (x : ConfigFields) (k : SecIx) (s : State), Taken h 24 s → secOf x.sec = some k →
    (settingsOf x).inRange = true → s.fitsNeighbours k (settingsOf x) = true → s.mayMove k (settingsOf x) = true →
    s.phase k = .unset → s.secs[k].settings = none → s.feedbackClosed k = true → s.SourceKept →
    ∃ t, exec (.configureSection h x) s = .next t
      ∧ Answers (.configureSection h x) h 0x01 (.sectionState k .lockedOut) s t
      ∧ t.secs[k].settings = some (settingsOf x) ∧ StuckFound k s t
      ∧ (∀ j : SecIx, j ≠ k → t.secs[j].settings = s.secs[j].settings ∧ t.secs[j].prot = s.secs[j].prot)
      ∧ ∀ (j : SecIx) (i : SlotIx) (r : Truck) (p : Prior), s.isLive j = true → s.truck? i = some r → r.sec = some j →
          r.contact.prior = some p → t.sectionOf r.est = some j →
          ∃ r', t.truck? i = some r' ∧ r'.contact = .held p r.grant ∧ r'.grant = 0

/-- R10, R12. SET-LIMITS replaces all sixteen limits at once, or refuses values outside their ranges. No truck in SHEDDING
or CROSSING holds a grant above the new C; with Z and E unchanged nothing else of the trucks changes. With Z or E changed,
every truck's zone is found again, a fresh ON-WIRE truck does as its zone makes it, and a CROSSING truck at its new transfer
point is transferred. The reply goes before the notices by the model's reading (notes/assumptions/8.md). -/
def Obligations.SetLimitsCutsPassingTrucksToC : Prop :=
  (∀ (h : ReqHdr) (x : LimitFields) (s : State), Taken h 28 s →
    ((limitsOf x).inRange = false →
      ∃ t, exec (.setLimits h x) s = .next t ∧ OnlyAnswers (.setLimits h x) h 0x02 (.reject .range 0) s t)
    ∧ ((limitsOf x).inRange = true →
      ∃ t, exec (.setLimits h x) s = .next t
        ∧ Answers (.setLimits h x) h 0x02 .accept s t
        ∧ t.limits = limitsOf x ∧ PlantKept { s with limits := limitsOf x } t
        ∧ (∀ (i : SlotIx) (r : Truck), t.truck? i = some r → r.contact.passing = true → r.grant ≤ (limitsOf x).c)
        ∧ ((limitsOf x).z = s.limits.z → (limitsOf x).e = s.limits.e →
            t.alt = s.alt ∧ t.seen = s.seen ∧ t.cycle = s.cycle ∧ (∀ k : SecIx, t.secs[k].queue = s.secs[k].queue)
            ∧ (∀ i : SlotIx, s.truck? i = none → t.roster[i] = s.roster[i])
            ∧ ∀ (i : SlotIx) (r : Truck), s.truck? i = some r →
                (r.contact.passing = true → (limitsOf x).c < r.grant →
                  t.truck? i = some { r with grant := (limitsOf x).c }
                  ∧ Notice.grant i r.tag (limitsOf x).c r.dir s.cycleNo ∈ t.link.notices)
                ∧ ((r.contact.passing = false ∨ r.grant ≤ (limitsOf x).c) → t.truck? i = some r))
        ∧ (((limitsOf x).z ≠ s.limits.z ∨ (limitsOf x).e ≠ s.limits.e) →
            let s' := { s with limits := limitsOf x }
            (∀ i : SlotIx, s.truck? i = none → t.roster[i] = s.roster[i])
            ∧ (∀ (i : SlotIx) (r : Truck), t.truck? i = some r → (r.zone, r.inside) = s'.zoneOf r)
            ∧ ∀ (i : SlotIx) (r : Truck), s.truck? i = some r →
                (∃ r', t.truck? i = some r' ∧ r'.tag = r.tag ∧ r'.est = r.est ∧ r'.grant ≤ r.grant
                  ∧ (r.contact = .onWire → r.age < 3 * r.stalePoint → ZoneActs (OnItsWay · t) False i r r' s')
                  ∧ (r.contact ≠ .onWire → (∀ g, r.contact ≠ .crossing g) → r'.contact = r.contact ∧ r'.sec = r.sec))
                ∧ ∀ g, r.contact = .crossing g →
                    (TransferDue g r s' → Transferred (OnItsWay · t) False i g r s' t)
                    ∧ (¬ TransferDue g r s' → ∃ r', t.truck? i = some r' ∧ r'.contact = .crossing g ∧ r'.sec = r.sec))))
  ∧ ∀ l : Limits, l.inRange = true ↔
      1500 ≤ l.vMin ∧ l.vMin ≤ 2600 ∧ 10 ∣ l.vMin ∧ 2700 ≤ l.vMax ∧ l.vMax ≤ 3400 ∧ 10 ∣ l.vMax
      ∧ l.vMin + 200 ≤ l.vMax ∧ l.c ≤ 300 ∧ 10 ∣ l.c ∧ 10 ≤ l.z ∧ l.z ≤ 200 ∧ 2 ≤ l.e ∧ l.e ≤ 50
      ∧ 200 ≤ l.shedDeadline ∧ l.shedDeadline ≤ 5000 ∧ 100 ∣ l.shedDeadline
      ∧ 1000 ≤ l.raiseWindow ∧ l.raiseWindow ≤ 10000 ∧ 100 ∣ l.raiseWindow
      ∧ 1000 ≤ l.lowerWindow ∧ l.lowerWindow ≤ 10000 ∧ 100 ∣ l.lowerWindow
      ∧ 500 ≤ l.staleLimit ∧ l.staleLimit ≤ 10000 ∧ 100 ∣ l.staleLimit
      ∧ 10 ≤ l.slew ∧ l.slew ≤ 3000 ∧ 10 ∣ l.slew
      ∧ 100 ≤ l.unaccounted ∧ l.unaccounted ≤ 2000 ∧ 10 ∣ l.unaccounted
      ∧ l.patienceLoaded ≤ 255 ∧ l.patienceEmpty ≤ 255 ∧ l.patienceService ≤ 255
      ∧ 2 ≤ l.arcLimit ∧ l.arcLimit ≤ 32 ∧ 10 ≤ l.barTime ∧ l.barTime ≤ 600

/-! ### Sampler and Input Filter -/

/-- R136. SET-CADENCE refuses a mode that is none of the three and a period that is not 20 to 500 ms in steps of 10, in
every mode; else it takes both, makes the Δt base absent on leaving OFF, starts the timer afresh in PERIODIC and stops it
in the others, and leaves a scan in flight alone. -/
def Obligations.SetCadenceTakesModeAndPeriod : Prop :=
  ∀ (h : ReqHdr) (mode : Byte) (period : Half) (s : State), Taken h 5 s →
    ((2 < mode.toNat ∨ period.toNat < 20 ∨ 500 < period.toNat ∨ ¬ 10 ∣ period.toNat) →
      ∃ t, exec (.setCadence h mode period) s = .next t
        ∧ OnlyAnswers (.setCadence h mode period) h 0x03 (.reject .range 0) s t)
    ∧ ∀ m : Cadence, mode.toNat = m.code → 20 ≤ period.toNat → period.toNat ≤ 500 → 10 ∣ period.toNat →
      ∃ t, exec (.setCadence h mode period) s = .next t
        ∧ OnlyAnswers (.setCadence h mode period) h 0x03 (.cadence m period.toNat) { s with smp := t.smp } t
        ∧ t.smp = { s.smp with
            mode := m
            period := period.toNat
            dtBase := if s.smp.mode = .off ∧ m ≠ .off then none else s.smp.dtBase
            timer := if m = .periodic then some period.toNat else none }

/-- R135, R137. SCAN is refused in OFF and PERIODIC and while a scan is in flight; else it triggers one and tells the count
the scan will have. The cadence timer's expiry triggers a scan and sets the next expiry one period later. That the time left
passes before an expiry sent early (notes/assumptions/6.md), and that it replaces a scan in flight (notes/assumptions/9.md),
are the model's choices. -/
def Obligations.ScansAreTriggered : Prop :=
  (∀ (h : ReqHdr) (s : State), Taken h 2 s →
    (s.smp.mode ≠ .single →
      ∃ t, exec (.scan h) s = .next t ∧ OnlyAnswers (.scan h) h 0x04 (.reject .state 0) s t)
    ∧ (s.smp.mode = .single → s.smp.inFlight ≠ none →
      ∃ t, exec (.scan h) s = .next t ∧ OnlyAnswers (.scan h) h 0x04 (.reject .busy 0) s t)
    ∧ (s.smp.mode = .single → s.smp.inFlight = none →
      ∃ t, exec (.scan h) s = .next t
        ∧ OnlyAnswers (.scan h) h 0x04 (.scanCount ((s.smp.count + 1) % 65536))
            { s with smp := { s.smp with inFlight := some s.now } } t))
  ∧ ∀ (w : Nat) (s : State), s.LineBusy → s.smp.timer = some w →
      exec .cadenceTimerExpiry s = .next { s.elapse w with
        smp := { s.smp with inFlight := some (s.now + w), timer := some s.smp.period } }

/-- R131, R132, R133, R134. A completed scan is good exactly where the reference code is 2,028 to 2,068; it is numbered by
the count, carries its Δt where it is good, and a good one is published to its three takers. Short of the third bad scan
in a row nothing else changes. That each taker has a list of its own, with no bound, is the model's choice
(notes/assumptions/9.md). -/
def Obligations.CompletedScansArePublished : Prop :=
  ∀ (codes : Vector (BitVec 12) 22) (at' : Nat) (s : State), s.smp.inFlight = some at' →
    ∃ t, exec (.scanCompletion codes) s = .next t
      ∧ ∃ r : ScanResult, r.number = (s.smp.count + 1) % 65536 ∧ r.instant = at' ∧ r.codes = codes
        ∧ (r.good = true ↔ 2028 ≤ (codes[(0 : Fin 22)]).toNat ∧ (codes[(0 : Fin 22)]).toNat ≤ 2068)
        ∧ r.dt = (if r.good = true then some (match s.smp.dtBase with
            | some b => min ((at' - b) / 10 * 10) 1000 | none => 0) else none)
        ∧ t.smp = { s.smp with
            inFlight := none
            dtBase := if r.good = true then some at' else s.smp.dtBase
            last := some r
            badRun := if r.good = true then 0 else min (s.smp.badRun + 1) 65535
            count := r.number }
        ∧ t.bgeScans = (if r.good = true then s.bgeScans ++ [r] else s.bgeScans)
        ∧ t.fprScans = (if r.good = true then s.fprScans ++ [r] else s.fprScans)
        ∧ t.fsqScans = (if r.good = true then s.fsqScans ++ [r] else s.fsqScans)
        ∧ ((r.good = true ∨ s.smp.badRun ≠ 2) → s.LineBusy →
            t = { s with smp := t.smp, bgeScans := t.bgeScans, fprScans := t.fprScans, fsqScans := t.fsqScans })

/-- R126, R134. The third bad scan in a row raises MEASURE-FAULT, cuts every grant to 0 with a notice for each that was
above 0, and discards the publication of a cycle in progress. -/
def Obligations.ThirdBadScanCutsEveryGrant : Prop :=
  ∀ (codes : Vector (BitVec 12) 22) (at' : Nat) (s : State), s.smp.inFlight = some at' → goodScan codes = false →
    s.smp.badRun = 2 →
    ∃ t, exec (.scanCompletion codes) s = .next t
      ∧ t.smp.badRun = 3 ∧ AlertHeld .measureFault none t
      ∧ (∀ (i : SlotIx), s.truck? i = none → t.roster[i] = s.roster[i])
      ∧ (∀ (i : SlotIx) (r : Truck), s.truck? i = some r → t.truck? i = some { r with grant := 0 }
          ∧ (r.grant ≠ 0 → OnItsWay (.grant i r.tag 0 r.dir s.cycleNo) t))
      ∧ t.cycle = s.cycle.map (fun c => { c with discard := true })
      ∧ t.secs = s.secs ∧ t.seen = s.seen ∧ t.steady = { s.steady with smp := t.smp }

/-- R139, R140, R141. One sample shifts the stages of all twelve inputs; a filtered value takes a level that two samples in
a row have read, and each change is handed to its owner. Nothing else changes. That the time left passes before a sample sent
early (notes/assumptions/6.md), and that changes handed over wait in a list (notes/assumptions/7.md), are the model's
choices. -/
def Obligations.TwoEqualSamplesPassTheFilter : Prop :=
  ∀ (l : InputLevels) (s : State), s.LineBusy →
    ∃ f : InputFilter, exec (.inputFilterSampling l) s = .next { s.elapse s.ifl.timer with ifl := f }
      ∧ f.timer = 2
      ∧ (∀ k : SecIx, f.breakers[k] = ⟨s.ifl.breakers[k].newer, some l.breakers[k],
          if s.ifl.breakers[k].newer = some l.breakers[k] then l.breakers[k] else s.ifl.breakers[k].value⟩)
      ∧ (∀ g : GapIx, f.gaps[g] = ⟨s.ifl.gaps[g].newer, some l.gaps[g],
          if s.ifl.gaps[g].newer = some l.gaps[g] then l.gaps[g] else s.ifl.gaps[g].value⟩)
      ∧ f.stop = ⟨s.ifl.stop.newer, some l.stop, if s.ifl.stop.newer = some l.stop then l.stop else s.ifl.stop.value⟩
      ∧ ∃ new : List Change, f.handed = s.ifl.handed ++ new ∧ new.Nodup
        ∧ (∀ (k : SecIx) (v : Bool), Change.breaker k v ∈ new ↔ v = f.breakers[k].value ∧ v ≠ s.ifl.breakers[k].value)
        ∧ (∀ (g : GapIx) (v : Bool), Change.gap g v ∈ new ↔ v = f.gaps[g].value ∧ v ≠ s.ifl.gaps[g].value)
        ∧ ∀ v : Bool, Change.stop v ∈ new ↔ v = f.stop.value ∧ v ≠ s.ifl.stop.value

/-- R177. An activation of STOP raises the alert, empties the wait list, frees the test source and takes every section in
TEST-PENDING through TRIPPED to DEAD with its trucks held; its release changes nothing but the filtered value. That a release
no sample has handed over sets the filtered value itself is the model's choice (notes/assumptions/7.md). -/
def Obligations.StopTakesEverySectionDown : Prop :=
  (∀ s : State, s.SourceKept →
    ∃ t, exec .stopActivation s = .next t
      ∧ AlertHeld .stop none t ∧ t.source = none ∧ t.waitList = [] ∧ t.busTrip = s.busTrip
      ∧ OuterKept { s with ifl := t.ifl } t
      ∧ ∀ k : SecIx,
          ((s.phase k).active = false → t.secs[k].feeder = s.secs[k].feeder)
          ∧ ((s.phase k).active = true → t.phase k = .dead ∧ t.secs[k].feeder.cause = .stop
              ∧ OnItsWay (.sec k .dead .stop s.cycleNo) t)
          ∧ (s.isLive k = true → t.secs[k].budget.ceiling = 0 ∧ HeldFrom k s t
              ∧ t.secs[k].feeder.openConfirm = some 200
              ∧ ∀ (i : SlotIx) (r : Truck), s.truck? i = some r → r.sec = some k → r.contact.prior ≠ none →
                  ∃ r', t.truck? i = some r' ∧ r'.grant = 0
                    ∧ (r'.contact.state = .held ∨ r'.contact.state = .lowering)))
  ∧ ∀ s : State, s.LineBusy →
      ∃ f : InputFilter, exec .stopRelease s = .next { s with ifl := f }
        ∧ f.breakers = s.ifl.breakers ∧ f.gaps = s.ifl.gaps ∧ f.timer = s.ifl.timer
        ∧ (Change.stop false ∈ s.ifl.handed → f.stop = s.ifl.stop)
        ∧ (Change.stop false ∉ s.ifl.handed → f.stop.value = false ∧ f.handed = s.ifl.handed)

/-! ### Feeder Sequencer -/

/-- R161, R162. ENERGIZE is refused by its checks in their order; else the section asks for the test source: it enters
TESTING where the source is free, with the settle time and test timeout running, or else waits behind the others. The reply
goes before the SECTION notice by the model's reading (notes/assumptions/8.md). -/
def Obligations.EnergizeAsksForTheTestSource : Prop :=
  ∀ (h : ReqHdr) (sec allow : Byte) (s : State), Taken h 4 s →
    let refused (why : Reason) := ∃ t, exec (.energize h sec allow) s = .next t
      ∧ OnlyAnswers (.energize h sec allow) h 0x11 (.reject why 0) s t
    ((sec.toNat = 0 ∨ 6 < sec.toNat ∨ 1 < allow.toNat) → refused .range)
    ∧ ∀ (k : SecIx) (a : Bool), sec.toNat = k.val + 1 → allow.toNat = (if a then 1 else 0) →
      (s.phase k ≠ .dead → refused .state)
      ∧ (s.phase k = .dead →
        (s.secs[k].feeder.openConfirm ≠ none → refused .busy)
        ∧ (s.secs[k].feeder.openConfirm = none →
          (s.stopActive = true → refused .stopped)
          ∧ (s.stopActive = false →
            (s.busTrip = true → refused .busTripped)
            ∧ (s.busTrip = false →
              ∃ t, exec (.energize h sec allow) s = .next t
                ∧ Answers (.energize h sec allow) h 0x11
                    (.sectionState k (if s.source = none then .testing else .testPending)) s t
                ∧ (s.source = none → t.source = some k ∧ t.waitList = s.waitList
                    ∧ t.phase k = .testing a [] (s.now + 50) 5000 ∧ t.testEnable k = true)
                ∧ (s.source ≠ none → t.source = s.source ∧ t.waitList = s.waitList ++ [k]
                    ∧ t.phase k = .testPending a ∧ t.testEnable k = false)
                ∧ t.secs[k] = { s.secs[k] with
                    feeder := { s.secs[k].feeder with phase := t.phase k, cause := .energize } }
                ∧ Notice.sec k (t.phase k).state .energize s.cycleNo ∈ t.link.notices
                ∧ (∀ j : SecIx, j ≠ k → t.secs[j] = s.secs[j])
                ∧ TrucksKept s t ∧ t.alt = s.alt ∧ t.busTrip = s.busTrip ∧ OuterKept s t))))

/-- R176, R171, R58. DE-ENERGIZE takes a section in TEST-PENDING through TRIPPED to DEAD, holds its trucks where it was
LIVE, and hands over a test source it owned; in any other state, and for a number outside 1 to 6, it is refused. The reply
goes before the notices by the model's reading (notes/assumptions/8.md). -/
def Obligations.DeEnergizeTakesASectionDown : Prop :=
  ∀ (h : ReqHdr) (sec : Byte) (s : State), Taken h 3 s →
    ((sec.toNat = 0 ∨ 6 < sec.toNat) →
      ∃ t, exec (.deEnergize h sec) s = .next t ∧ OnlyAnswers (.deEnergize h sec) h 0x12 (.reject .range 0) s t)
    ∧ ∀ k : SecIx, sec.toNat = k.val + 1 →
      ((s.phase k = .unset ∨ s.phase k = .dead ∨ s.phase k = .lockedOut) →
        ∃ t, exec (.deEnergize h sec) s = .next t ∧ OnlyAnswers (.deEnergize h sec) h 0x12 (.reject .state 0) s t)
      ∧ (s.phase k ≠ .unset → s.phase k ≠ .dead → s.phase k ≠ .lockedOut → s.SourceKept →
        ∃ t, exec (.deEnergize h sec) s = .next t
          ∧ Answers (.deEnergize h sec) h 0x12 (.sectionState k .dead) s t
          ∧ WentDown k .dead .deEnergize s t ∧ (s.isLive k = true → HeldAcross k s t)
          ∧ t.mainClose k = false ∧ t.prechargeClose k = false ∧ t.testEnable k = false
          ∧ (∀ j : SecIx, t.secs[j].prot = s.secs[j].prot)
          ∧ (s.isLive k = false → TrucksKept s t)
          ∧ t.alt = s.alt ∧ t.busTrip = s.busTrip ∧ OuterKept s t)

/-- R178, R170. CLEAR-LOCKOUT is refused where the section is not LOCKED-OUT or its feedback reads closed, and under
BUS-TRIP for another cause than BREAKER-STUCK; else the section is DEAD with its trips cleared, and BUS-TRIP is deasserted
with the last stuck breaker. The reply goes before the SECTION notice by the model's reading (notes/assumptions/8.md). -/
def Obligations.ClearLockoutMayDeassertBusTrip : Prop :=
  ∀ (h : ReqHdr) (sec : Byte) (s : State), Taken h 3 s →
    let refused (why : Reason) := ∃ t, exec (.clearLockout h sec) s = .next t
      ∧ OnlyAnswers (.clearLockout h sec) h 0x13 (.reject why 0) s t
    ((sec.toNat = 0 ∨ 6 < sec.toNat) → refused .range)
    ∧ ∀ k : SecIx, sec.toNat = k.val + 1 →
      ((s.phase k ≠ .lockedOut ∨ s.feedbackClosed k = true) → refused .state)
      ∧ (s.phase k = .lockedOut → s.feedbackClosed k = false →
        (s.busTrip = true → s.secs[k].feeder.cause ≠ .breakerStuck → refused .busTripped)
        ∧ ((s.busTrip = false ∨ s.secs[k].feeder.cause = .breakerStuck) →
          ∃ t, exec (.clearLockout h sec) s = .next t
            ∧ Answers (.clearLockout h sec) h 0x13 (.sectionState k .dead) s t
            ∧ t.secs[k] = { s.secs[k] with
                feeder := { s.secs[k].feeder with
                  phase := .dead, cause := .lockoutCleared, tripCount := 0, tripWindow := none } }
            ∧ Notice.sec k .dead .lockoutCleared s.cycleNo ∈ t.link.notices
            ∧ (t.busTrip = true ↔ s.busTrip = true ∧
                (s.secs[k].feeder.cause = .breakerStuck →
                  ∃ j : SecIx, j ≠ k ∧ s.phase j = .lockedOut ∧ s.secs[j].feeder.cause = .breakerStuck))
            ∧ (∀ j : SecIx, j ≠ k → t.secs[j] = s.secs[j])
            ∧ t.source = s.source ∧ t.waitList = s.waitList
            ∧ TrucksKept s t ∧ t.alt = s.alt ∧ OuterKept s t))

/-- R159, R162. The test source has at most one owner, a section is TESTING exactly while it owns it and TEST-PENDING
exactly while it waits for it, and none waits for a free source: every step keeps it. -/
def Obligations.EveryStepKeepsTheTestSource : Prop :=
  ∀ s t : State, s.SourceKept → step s = .next t → t.SourceKept

/-- R143, R150, R153, R159, R169, R170. BUS-TRIP is asserted exactly while a section is locked out by a stuck breaker, no
section is then in TEST-PENDING through TRIPPED, and every section's live values stay in their ranges: every step keeps
it. -/
def Obligations.EveryStepKeepsFeederValues : Prop :=
  ∀ s t : State, s.SourceKept → s.BusTripKept → s.ValuesKept → step s = .next t → t.BusTripKept ∧ t.ValuesKept

/-- R130, R149, R163, R164, R166, R175. What one good scan does in each feeder state: a reading and, at the third, the verdict
in TESTING; the voltage check in PRECHARGE; the end of a thermal wait in TRIPPED; nothing in the others. A reading is ten
times the voltage code over the current code, the median stands between two readings, and a section is warm from half its
heat limit up. -/
def Obligations.ScansDriveTheSequencer : Prop :=
  (∀ r : ScanResult,
    (r.codes[(3 : Fin 22)] = 0 → r.ohms = 65535)
    ∧ (r.codes[(3 : Fin 22)] ≠ 0 →
        r.ohms = min (10 * (r.codes[(2 : Fin 22)]).toNat / (r.codes[(3 : Fin 22)]).toNat) 65535)
    ∧ r.bus = (r.codes[(1 : Fin 22)]).toNat
    ∧ ∀ (k : SecIx) (ch : Fin 22), ch.val = 5 + 3 * k.val → r.feedVoltage k = (r.codes[ch]).toNat)
  ∧ (∀ a b c : Nat, a ≤ b → b ≤ c →
      median a b c = b ∧ median a c b = b ∧ median b a c = b ∧ median b c a = b ∧ median c a b = b ∧ median c b a = b)
  ∧ (∀ (x : Sec) (c : Settings), x.settings = some c → (x.warm = true ↔ c.heatLimit / 2 ≤ x.prot.heat))
  ∧ ∀ (r : ScanResult) (q : List ScanResult) (s : State), s.SourceKept → s.fsqScans = r :: q →
    ∃ t, exec .fsqScanEvaluation s = .next t
      ∧ t.fsqScans = q ∧ OuterKept { s with fsqScans := q } t ∧ t.busTrip = s.busTrip ∧ TrucksKept s t
      ∧ (∀ k : SecIx, t.secs[k].prot = s.secs[k].prot ∧ t.secs[k].budget = s.secs[k].budget)
      ∧ (∀ (k : SecIx) (allow : Bool) (rs : List Nat) (settle w : Nat), s.phase k = .testing allow rs settle w →
          (r.instant < settle → t.secs[k].feeder = s.secs[k].feeder)
          ∧ (settle ≤ r.instant → rs.length < 2 →
              t.secs[k].feeder = { s.secs[k].feeder with phase := .testing allow (rs ++ [r.ohms]) settle w })
          ∧ (settle ≤ r.instant → ∀ a b : Nat, rs = [a, b] →
              let m := median a b r.ohms
              (500 ≤ m → t.secs[k].feeder = { s.secs[k].feeder with
                phase := .precharge s.now 2000, cause := .lineClear })
              ∧ (20 ≤ m → m < 500 → allow = true → t.secs[k].feeder = { s.secs[k].feeder with
                phase := .precharge s.now 2000, cause := .lineOccupied })
              ∧ (20 ≤ m → m < 500 → allow = false → t.secs[k].feeder = { s.secs[k].feeder with
                phase := .dead, cause := .testOccupied })
              ∧ (m < 20 → t.secs[k].feeder = { s.secs[k].feeder with
                phase := .lockedOut, cause := .lineFault }
                ∧ AlertHeld .lockout (some k) t ∧ AlertHeld .lineFault (some k) t)))
      ∧ (∀ (k : SecIx) (since w : Nat), s.phase k = .precharge since w →
          t.secs[k].feeder =
            if since ≤ r.instant ∧ r.bus * 9 / 10 ≤ r.feedVoltage k then
              { s.secs[k].feeder with phase := .closing 200, cause := .precharged }
            else s.secs[k].feeder)
      ∧ (∀ (k : SecIx) (rc : Option Nat) (wait : Bool), s.phase k = .tripped rc wait →
          (wait = true → s.secs[k].warm = false → t.secs[k].feeder.cause = .reclose
            ∧ (t.phase k = .testPending true ∨ t.phase k = .testing true [] (s.now + 50) 5000))
          ∧ ((wait = false ∨ s.secs[k].warm = true) → t.secs[k].feeder = s.secs[k].feeder))
      ∧ ∀ k : SecIx, (s.phase k = .unset ∨ s.phase k = .dead ∨ (∃ w, s.phase k = .closing w) ∨ s.phase k = .live
          ∨ s.phase k = .lockedOut) → t.secs[k].feeder = s.secs[k].feeder

/-- R167, R60, R61, R101, R151, R168, R169. A filtered closing in CLOSING brings the section to LIVE with a ceiling of 0, a new
live period and its HELD trucks restored as their prior state and zone make them; in a state that asks for an open breaker,
with no open confirmation running, it is a stuck breaker, which a section already BREAKER-STUCK raises again; in LIVE, in
UNSET and during an open confirmation nothing happens. That a descending truck exactly at the lower bound of its section is
restored ON-WIRE, and overruns by R84 only later, is the model's choice (notes/assumptions/26.md). -/
def Obligations.ClosingFeedbackMakesLiveOrStuck : Prop :=
  ∀ (k : SecIx) (s : State),
    ((∃ w, s.phase k = .closing w) →
      ∃ t, exec (.breakerFeedbackClosed k) s = .next t
        ∧ t.secs[k].feeder = { s.secs[k].feeder with phase := .live, cause := .closed }
        ∧ t.mainClose k = true ∧ t.prechargeClose k = false
        ∧ t.secs[k].budget = { s.secs[k].budget with
            ceiling := 0, ceilingCycle := s.cycleNo, livePeriod := s.secs[k].budget.livePeriod + 1 }
        ∧ t.secs[k].prot = { s.secs[k].prot with
            sag := 8, unaccounted := false, highRun := 0, lowRun := 0, lastDraw := 0, deduction := 0 }
        ∧ (∀ j : SecIx, j ≠ k → t.plant.secs j = s.plant.secs j)
        ∧ OuterKept { s with ifl := t.ifl } t ∧ t.source = s.source ∧ t.waitList = s.waitList ∧ t.busTrip = s.busTrip
        ∧ (∀ (i : SlotIx) (r : Truck) (p : Prior) (g : Nat), s.truck? i = some r → r.sec = some k →
            r.contact = .held p g →
            ∃ r', t.truck? i = some r' ∧ r'.firstCap = some g ∧ r'.contact.state ≠ .held ∧ r'.grant ≤ r.grant
              ∧ (r.age < 3 * r.stalePoint → RestoredAt (OnItsWay · t) False i r r' p g s)
              ∧ (3 * r.stalePoint ≤ r.age → r'.contact = .lowering (some s.limits.lowerWindow)))
        ∧ ∀ (i : SlotIx), (∀ r, s.truck? i = some r → r.sec ≠ some k ∨ r.contact.state ≠ .held) →
            t.roster[i] = s.roster[i])
    ∧ (s.SourceKept → s.phase k ≠ .unset → s.phase k ≠ .live → (∀ w, s.phase k ≠ .closing w) →
        s.secs[k].feeder.openConfirm = none → ¬ (s.phase k = .lockedOut ∧ s.secs[k].feeder.cause = .breakerStuck) →
      ∃ t, exec (.breakerFeedbackClosed k) s = .next t
        ∧ StuckFound k s t ∧ OuterKept { s with ifl := t.ifl } t
        ∧ ∀ j : SecIx, s.isLive j = true → HeldFrom j s t ∧ t.secs[j].budget.ceiling = 0)
    ∧ (s.phase k = .lockedOut → s.secs[k].feeder.cause = .breakerStuck → s.secs[k].feeder.openConfirm = none → s.LineBusy →
      ∃ t, exec (.breakerFeedbackClosed k) s = .next t
        ∧ AlertHeld .breakerStuck (some k) t
        ∧ t = { s with ifl := t.ifl, alt := (s.raiseAlert .breakerStuck (some k) none).alt })
    ∧ ((s.phase k = .unset ∨ s.phase k = .live ∨ (s.secs[k].feeder.openConfirm ≠ none ∧ ∀ w, s.phase k ≠ .closing w)) →
        s.LineBusy →
      ∃ t, exec (.breakerFeedbackClosed k) s = .next t ∧ t = { s with ifl := t.ifl })

/-- R172, R173, R179. A filtered opening of a LIVE section's breaker trips it: TRIPPED with its reclose timer, or LOCKED-OUT
at the third trip of a trip window, its trucks held; out of LIVE nothing happens. -/
def Obligations.OpeningFeedbackTripsALiveSection : Prop :=
  ∀ (k : SecIx) (s : State),
    (s.isLive k = true → s.SourceKept →
      ∃ t, exec (.breakerFeedbackOpen k) s = .next t
        ∧ TrippedBy k .uncommandedOpen s t ∧ HeldAcross k s t
        ∧ t.source = s.source ∧ t.waitList = s.waitList ∧ t.busTrip = s.busTrip
        ∧ (∀ j : SecIx, t.secs[j].prot = s.secs[j].prot)
        ∧ (∀ j : SecIx, j ≠ k → t.secs[j].feeder = s.secs[j].feeder)
        ∧ OuterKept { s with ifl := t.ifl } t)
    ∧ (s.isLive k = false → s.LineBusy →
      ∃ t, exec (.breakerFeedbackOpen k) s = .next t ∧ t = { s with ifl := t.ifl })

/-- R165, R162, R171. At the test timeout the section goes to DEAD with cause TEST-TIMEOUT, raises no alert, and its test
source goes to the head of the wait list. The time left passes before an expiry sent early: the model's choice
(notes/assumptions/6.md). -/
def Obligations.TestTimeoutHandsTheSourceOver : Prop :=
  ∀ (k : SecIx) (allow : Bool) (rs : List Nat) (settle w : Nat) (s : State), s.SourceKept →
    s.phase k = .testing allow rs settle w →
    ∃ t, exec (.testTimeout k) s = .next t
      ∧ WentDown k .dead .testTimeout (s.elapse w) t ∧ t.testEnable k = false
      ∧ TrucksKept (s.elapse w) t ∧ t.alt = s.alt ∧ t.busTrip = s.busTrip ∧ OuterKept (s.elapse w) t
      ∧ ∀ j : SecIx, t.secs[j].prot = s.secs[j].prot

/-- R166, R167, R179. A precharge window or a close confirm that runs out locks the section out with LOCKOUT raised; the
breaker's opening is then to be confirmed where MAIN-CLOSE was asserted. The time left passes before an expiry sent early:
the model's choice (notes/assumptions/6.md). -/
def Obligations.FailedClosingLocksTheSectionOut : Prop :=
  (∀ (k : SecIx) (since w : Nat) (s : State), s.SourceKept → s.phase k = .precharge since w →
    ∃ t, exec (.prechargeWindowExpiry k) s = .next t
      ∧ WentDown k .lockedOut .prechargeFail (s.elapse w) t ∧ AlertHeld .lockout (some k) t
      ∧ t.prechargeClose k = false
      ∧ TrucksKept (s.elapse w) t ∧ t.busTrip = s.busTrip ∧ OuterKept (s.elapse w) t)
  ∧ ∀ (k : SecIx) (w : Nat) (s : State), s.SourceKept → s.phase k = .closing w →
    ∃ t, exec (.closeConfirmExpiry k) s = .next t
      ∧ WentDown k .lockedOut .closeFail (s.elapse w) t ∧ t.secs[k].feeder.openConfirm = some 200
      ∧ AlertHeld .lockout (some k) t ∧ t.mainClose k = false ∧ t.prechargeClose k = false
      ∧ TrucksKept (s.elapse w) t ∧ t.busTrip = s.busTrip ∧ OuterKept (s.elapse w) t

/-- R168, R169. An open confirmation that runs out passes where the feedback reads open or the section is UNSET, and finds
a stuck breaker where it still reads closed, which a section already BREAKER-STUCK raises again. The time left passes before an
expiry sent early: the model's choice (notes/assumptions/6.md). -/
def Obligations.OpenConfirmationFindsAStuckBreaker : Prop :=
  ∀ (k : SecIx) (w : Nat) (s : State), s.secs[k].feeder.openConfirm = some w →
    ((s.phase k = .unset ∨ s.feedbackClosed k = false) →
      ∃ t, exec (.openConfirmationExpiry k) s = .next t
        ∧ t.secs[k].feeder = { (s.elapse w).secs[k].feeder with openConfirm := none }
        ∧ (∀ j : SecIx, j ≠ k → t.secs[j] = (s.elapse w).secs[j])
        ∧ t.steady = { (s.elapse w).steady with secs := t.plant.secs }
        ∧ TrucksKept (s.elapse w) t ∧ t.alt = s.alt)
    ∧ (s.phase k ≠ .unset → s.feedbackClosed k = true → s.SourceKept →
        ¬ (s.phase k = .lockedOut ∧ s.secs[k].feeder.cause = .breakerStuck) →
      ∃ t, exec (.openConfirmationExpiry k) s = .next t
        ∧ StuckFound k (s.elapse w) t ∧ OuterKept (s.elapse w) t
        ∧ (s.mainClose k = false → t.secs[k].feeder.openConfirm = none)
        ∧ ∀ j : SecIx, s.isLive j = true → HeldFrom j (s.elapse w) t ∧ t.secs[j].budget.ceiling = 0)
    ∧ (s.phase k = .lockedOut → s.secs[k].feeder.cause = .breakerStuck → s.feedbackClosed k = true →
      ∃ t, exec (.openConfirmationExpiry k) s = .next t
        ∧ t.secs[k].feeder = { (s.elapse w).secs[k].feeder with openConfirm := none }
        ∧ (∀ j : SecIx, j ≠ k → t.secs[j] = (s.elapse w).secs[j])
        ∧ t.steady = { (s.elapse w).steady with secs := t.plant.secs }
        ∧ TrucksKept (s.elapse w) t ∧ AlertHeld .breakerStuck (some k) t
        ∧ t.alt = (s.raiseAlert .breakerStuck (some k) none).alt)

/-- R173, R174, R149. At the reclose timer's expiry a section asks for the test source with cause RECLOSE and allow-occupied
yes, unless it tripped THERMAL and is warm, when it waits without a notice. A trip window's expiry clears the trip count. The
time left passes before an expiry sent early: the model's choice (notes/assumptions/6.md). -/
def Obligations.RecloseAsksOrWaitsWarm : Prop :=
  (∀ (k : SecIx) (w : Nat) (b : Bool) (s : State), s.phase k = .tripped (some w) b →
    ∃ t, exec (.recloseTimerExpiry k) s = .next t
      ∧ (s.secs[k].feeder.cause = .thermal → s.secs[k].warm = true →
          t.phase k = .tripped none true ∧ t.secs[k].feeder.cause = .thermal
          ∧ t.source = s.source ∧ t.waitList = s.waitList ∧ (s.LineBusy → t.link = s.link))
      ∧ ((s.secs[k].feeder.cause ≠ .thermal ∨ s.secs[k].warm = false) →
          t.secs[k].feeder.cause = .reclose
          ∧ OnItsWay (.sec k (t.phase k).state .reclose s.cycleNo) t
          ∧ (s.source = none → t.phase k = .testing true [] (s.now + w + 50) 5000 ∧ t.source = some k
              ∧ t.waitList = s.waitList)
          ∧ (s.source ≠ none → t.phase k = .testPending true ∧ t.source = s.source
              ∧ t.waitList = s.waitList ++ [k]))
      ∧ t.secs[k].feeder.tripCount = s.secs[k].feeder.tripCount
      ∧ (∀ j : SecIx, j ≠ k → t.secs[j] = (s.elapse w).secs[j])
      ∧ TrucksKept (s.elapse w) t ∧ t.alt = s.alt ∧ t.busTrip = s.busTrip ∧ OuterKept (s.elapse w) t)
  ∧ ∀ (k : SecIx) (w : Nat) (s : State), s.secs[k].feeder.tripWindow = some w →
    ∃ t, exec (.tripWindowExpiry k) s = .next t
      ∧ t.secs[k].feeder = { (s.elapse w).secs[k].feeder with tripCount := 0, tripWindow := none }
      ∧ (∀ j : SecIx, j ≠ k → t.secs[j] = (s.elapse w).secs[j])
      ∧ t.steady = { (s.elapse w).steady with secs := t.plant.secs }
      ∧ TrucksKept (s.elapse w) t ∧ t.alt = s.alt

/-! ### Feeder Protection -/

/-- R147, R145, R130. At a good scan the heat account of each configured section, in every feeder state, changes by
(⌊I/10⌋² − (F/10)²)·(Δt/10), held within 0 and the heat limit, and the last measured values are the scan's, at 2.5 A and 1 V
to the code. -/
def Obligations.HeatAccountFollowsTheCurrent : Prop :=
  (∀ (r : ScanResult) (k : SecIx) (ch : Fin 22),
    (ch.val = 4 + 3 * k.val → r.feederCurrent k = (r.codes[ch]).toNat * 5 / 2)
    ∧ (ch.val = 5 + 3 * k.val → r.feedVoltage k = (r.codes[ch]).toNat)
    ∧ (ch.val = 6 + 3 * k.val → r.farVoltage k = (r.codes[ch]).toNat))
  ∧ ∀ (r : ScanResult) (q : List ScanResult) (s : State), s.fprScans = r :: q →
    ∃ t, exec .fprScanEvaluation s = .next t
      ∧ t.fprScans = q ∧ OuterKept { s with fprScans := q } t
      ∧ (∀ k : SecIx, s.secs[k].settings = none → t.secs[k].prot = s.secs[k].prot)
      ∧ ∀ (k : SecIx) (c : Settings), s.secs[k].settings = some c →
          t.secs[k].prot.feederCurrent = r.feederCurrent k ∧ t.secs[k].prot.feedVoltage = r.feedVoltage k
          ∧ t.secs[k].prot.farVoltage = r.farVoltage k ∧ t.secs[k].prot.lastScan = some r.number
          ∧ (t.secs[k].prot.heat : Int) =
              max 0 (min (c.heatLimit : Int) ((s.secs[k].prot.heat : Int)
                + (((r.feederCurrent k / 10 : Nat) : Int) * ((r.feederCurrent k / 10 : Nat) : Int)
                    - ((c.f / 10 : Nat) : Int) * ((c.f / 10 : Nat) : Int)) * ((r.delta / 10 : Nat) : Int)))

/-- R146, R148, R172, R173. A LIVE section whose scanned current reaches its trip current trips by OVERCURRENT; below it, one
whose heat account rises to its limit trips THERMAL; a section out of LIVE does not trip. -/
def Obligations.OvercurrentTripsBeforeHeat : Prop :=
  ∀ (r : ScanResult) (q : List ScanResult) (k : SecIx) (c : Settings) (s : State), s.SourceKept →
    s.fprScans = r :: q → s.secs[k].settings = some c →
    ∃ t, exec .fprScanEvaluation s = .next t
      ∧ (s.isLive k = true → c.trip ≤ r.feederCurrent k → TrippedBy k .overcurrent s t)
      ∧ (s.isLive k = true → r.feederCurrent k < c.trip → c.f / 10 < r.feederCurrent k / 10 → 10 ≤ r.delta →
          t.secs[k].prot.heat = c.heatLimit → TrippedBy k .thermal s t)
      ∧ ((s.isLive k = false ∨ (r.feederCurrent k < c.trip
            ∧ (r.feederCurrent k / 10 ≤ c.f / 10 ∨ r.delta < 10 ∨ t.secs[k].prot.heat ≠ c.heatLimit))) →
          t.secs[k].feeder = s.secs[k].feeder)

/-- R150, R151. At a good scan the sag trim of a LIVE section falls by 1, not below 4, for a far-end voltage below V_min, and
rises by 1, not above 8, from V_min + 100 up; SAG is raised as it falls to 4. Out of LIVE it is kept. -/
def Obligations.SagTrimFollowsTheFarEnd : Prop :=
  ∀ (r : ScanResult) (q : List ScanResult) (k : SecIx) (c : Settings) (s : State), s.SourceKept → s.fprScans = r :: q →
    s.secs[k].settings = some c →
    ∃ t, exec .fprScanEvaluation s = .next t
      ∧ (s.isLive k = true → t.isLive k = true →
          (r.farVoltage k < s.limits.vMin → t.secs[k].prot.sag = max (s.secs[k].prot.sag - 1) 4)
          ∧ (s.limits.vMin + 100 ≤ r.farVoltage k → t.secs[k].prot.sag = min (s.secs[k].prot.sag + 1) 8)
          ∧ (s.limits.vMin ≤ r.farVoltage k → r.farVoltage k < s.limits.vMin + 100 →
              t.secs[k].prot.sag = s.secs[k].prot.sag)
          ∧ (s.secs[k].prot.sag ≠ 4 → t.secs[k].prot.sag = 4 → AlertHeld .sag (some k) t))
      ∧ (t.isLive k = false → t.secs[k].prot.sag = s.secs[k].prot.sag)

/-- R55, R152, R153, R154, R155. At a good scan the unaccounted draw of a LIVE section that does not trip is its current and
what its trucks return, less what they draw, not below 0; five scans in a row at or above the threshold set the flag and
raise the alert, five below it clear it, and the deduction follows. It is stated where no tripping section hands the section
a CROSSING truck. The fixed load of every configured section is that of its stuck trucks. Where no section trips, trucks and
link are left alone. -/
def Obligations.UnaccountedDrawIsDeducted : Prop :=
  ∀ (r : ScanResult) (q : List ScanResult) (s : State), s.SourceKept → s.fprScans = r :: q → s.LineBusy →
    ∃ t, exec .fprScanEvaluation s = .next t
      ∧ let trips (k : SecIx) := s.isLive k = true ∧ ∃ c, s.secs[k].settings = some c ∧ (c.trip ≤ r.feederCurrent k
          ∨ (c.f / 10 < r.feederCurrent k / 10 ∧ 10 ≤ r.delta ∧ t.secs[k].prot.heat = c.heatLimit))
        ((∀ k, ¬ trips k) → t.roster = s.roster ∧ t.link = s.link ∧ t.seen = s.seen ∧ t.cycle = s.cycle
          ∧ ∀ k : SecIx, t.secs[k].feeder = s.secs[k].feeder ∧ t.secs[k].budget = s.secs[k].budget
              ∧ t.secs[k].queue = s.secs[k].queue)
        ∧ ∀ (k : SecIx) (c : Settings), s.secs[k].settings = some c →
          t.secs[k].prot.fixedLoad
            = s.sumTrucks (fun x => if x.sec = some k ∧ x.contact = .lowering none then x.current else 0)
          ∧ (s.isLive k = true → ¬ trips k →
              (∀ (i : SlotIx) (x : Truck) (j : SecIx), s.truck? i = some x → x.sec = some j → x.contact.state = .crossing →
                s.sectionOf x.est = some k → ¬ trips j) →
              let back := s.sumTrucks fun x =>
                if x.sec = some k ∧ x.dir = .descend ∧ x.contact.metered then x.current else 0
              let drawn := s.sumTrucks fun x =>
                if x.sec = some k ∧ x.dir = .climb ∧ x.contact.metered then x.current else 0
              let w := r.feederCurrent k + back - drawn
              let p := s.secs[k].prot
              let p' := t.secs[k].prot
              p'.lastDraw = w
              ∧ (s.limits.unaccounted ≤ w → p'.highRun = min (p.highRun + 1) 5 ∧ p'.lowRun = 0
                  ∧ (p'.unaccounted = true ↔ p.unaccounted = true ∨ p'.highRun = 5))
              ∧ (w < s.limits.unaccounted → p'.lowRun = min (p.lowRun + 1) 5 ∧ p'.highRun = 0
                  ∧ (p'.unaccounted = true ↔ p.unaccounted = true ∧ p'.lowRun ≠ 5))
              ∧ p'.deduction = (if p'.unaccounted = true then (w + 9) / 10 * 10 else 0)
              ∧ (p.unaccounted = false → p'.unaccounted = true → AlertHeld .unaccountedDraw (some k) t))

/-! ### Truck Roster and Contact Supervisor -/

/-- R17, R18, R34. ENROL is refused by its checks in their order; else the lowest free slot holds a new ENROLLED record with
the fields given and everything else at its start, unless it lies so far below the wire that it is released at once, its
reply before its RELEASED notice by the model's reading (notes/assumptions/8.md). -/
def Obligations.EnrolMakesARecord : Prop :=
  ∀ (h : ReqHdr) (x : EnrolFields) (s : State), Taken h 9 s →
    let refused (why : Reason) := ∃ t, exec (.enrol h x) s = .next t
      ∧ OnlyAnswers (.enrol h x) h 0x20 (.reject why 0) s t
    let p := min x.position.toNat 8191
    ((x.truck.toNat = 0 ∨ x.truck.toNat = 65535 ∨ 2 < x.cls.toNat ∨ 1 < x.dir.toNat) → refused .range)
    ∧ ∀ (c : TruckClass) (d : Dir), x.truck.toNat ≠ 0 → x.truck.toNat ≠ 65535 → x.cls.toNat = c.code →
        x.dir.toNat = d.code →
      ((∃ (i : SlotIx) (r : Truck), s.truck? i = some r ∧ r.tag = x.truck.toNat) → refused .duplicate)
      ∧ ((∀ (i : SlotIx) (r : Truck), s.truck? i = some r → r.tag ≠ x.truck.toNat) →
        ((∀ i : SlotIx, s.roster[i] ≠ .free) → refused .full)
        ∧ ∀ i : SlotIx, s.roster[i] = .free → (∀ j : SlotIx, j < i → s.roster[j] ≠ .free) →
          ((∀ u, s.topEnd = some u → u ≤ p) → refused .geometry)
          ∧ ∀ u, s.topEnd = some u → p < u →
            ∃ t, exec (.enrol h x) s = .next t
              ∧ Answers (.enrol h x) h 0x20 (.slot i) s t ∧ PlantKept s t ∧ t.alt = s.alt
              ∧ (∀ j : SlotIx, j ≠ i → t.roster[j] = s.roster[j]) ∧ (∀ k : SecIx, t.secs[k].queue = s.secs[k].queue)
              ∧ (d = .descend → (∃ b, s.bottomEnd = some b ∧ p + 50 < b) → t.roster[i] = .releasePending)
              ∧ ((d = .climb ∨ ∀ b, s.bottomEnd = some b → b ≤ p + 50) →
                ∃ r, t.truck? i = some r ∧ t.seen = s.seen
                  ∧ r.tag = x.truck.toNat ∧ r.cls = c ∧ r.dir = d ∧ r.reported = p ∧ r.est = p ∧ r.rem = 0
                  ∧ r.speed = min x.speed.toNat 200 ∧ r.panto = .down ∧ r.current = 0 ∧ r.demand = 0
                  ∧ r.lastCount = none ∧ r.arc = 0 ∧ r.decayTimer = 2000 ∧ r.bar = none ∧ r.age = 0
                  ∧ r.stalePoint = s.limits.staleLimit ∧ r.stale = false ∧ r.contact = .enrolled ∧ r.grant = 0
                  ∧ r.firstCap = none ∧ r.drawMeter = 0 ∧ r.drawWraps = 0 ∧ r.retMeter = 0 ∧ r.retWraps = 0
                  ∧ r.sec = s.sectionOf p ∧ (r.zone, r.inside) = s.zoneOf r))

/-- R19, R20, R21, R22, R23. An accepted REPORT records its fields within their ranges, raises the arc tally by the difference
of the contact-loss counts, held to 32, and answers with the state and grant it leaves. A grant that the contact effects leave
alone is cut to the new demand, or kept at or below it, and one that SHEDDING cuts to C is cut to the demand too; a changed
grant is told. A tally that rises to its limit in a truck the report would leave CLEARED or on the wire lowers it, sets its
raise bar and raises CONTACT-FAULT; else the report does as it would under any limit. It touches no other truck but by a
return trim. The reply goes before the notices (notes/assumptions/8.md), and a tally saturated at 63 does not rise
(notes/assumptions/15.md), by the model's reading. -/
def Obligations.ReportsAreRecorded : Prop :=
  ∀ (h : ReqHdr) (x : ReportFields) (s : State), Taken h 15 s →
    (s.slotOf x.truck.toNat = none →
      ∃ t, exec (.report h x) s = .next t ∧ OnlyAnswers (.report h x) h 0x21 (.reject .unknownTruck 0) s t)
    ∧ ∀ (i : SlotIx) (old : Truck), s.slotOf x.truck.toNat = some i → s.truck? i = some old →
      ((2 < x.cls.toNat ∨ 1 < x.dir.toNat ∨ 1 < x.panto.toNat) →
        ∃ t, exec (.report h x) s = .next t ∧ OnlyAnswers (.report h x) h 0x21 (.reject .range 0) s t)
      ∧ ∀ (c : TruckClass) (d : Dir) (p : Panto), x.cls.toNat = c.code → x.dir.toNat = d.code → x.panto.toNat = p.code →
        ∃ t, exec (.report h x) s = .next t
          ∧ PlantKept s t ∧ OthersKept i s t
          ∧ (t.truck? i = none → t.roster[i] = .releasePending
              ∧ Answers (.report h x) h 0x21 (.report i .enrolled 0) s t)
          ∧ ∀ r, t.truck? i = some r →
              Answers (.report h x) h 0x21 (.report i r.contact.state r.grant) s t
              ∧ r.tag = old.tag ∧ r.cls = c ∧ r.dir = d ∧ r.panto = p
              ∧ r.reported = min x.position.toNat 8191 ∧ r.est = r.reported ∧ r.rem = 0
              ∧ r.speed = min x.speed.toNat 200 ∧ r.current = min x.current.toNat 3000
              ∧ r.demand = min ((x.demand.toNat + 9) / 10 * 10) 3000
              ∧ r.lastCount = some x.count.toNat ∧ r.age = 0 ∧ r.stalePoint = s.limits.staleLimit ∧ r.stale = false
              ∧ (old.lastCount = none → r.arc = min old.arc 63)
              ∧ (∀ n, old.lastCount = some n → n ≤ x.count.toNat →
                  r.arc = min (old.arc + min (x.count.toNat - n) 32) 63)
              ∧ (∀ n, old.lastCount = some n → x.count.toNat < n → n < 256 →
                  r.arc = min (old.arc + min (x.count.toNat + 256 - n) 32) 63)
              ∧ r.decayTimer = old.decayTimer ∧ r.drawMeter = old.drawMeter ∧ r.retMeter = old.retMeter
              ∧ r.grant ≤ r.demand ∧ r.grant ≤ old.grant
              ∧ (old.contact.drawing = true → (r.contact = old.contact
                    ∨ ∃ g w, old.contact = .shedding g w ∧ r.contact = .crossing g) → r.grant = min old.grant r.demand)
              ∧ (old.contact = .onWire → r.contact.passing = true → r.grant = min (min old.grant s.limits.c) r.demand)
              ∧ (r.grant ≠ old.grant → Notice.grant i old.tag r.grant d s.cycleNo ∈ t.link.notices)
              ∧ ∃ t0, exec (.report h x) { s with limits := { s.limits with arcLimit := 64 } } = .next t0
                ∧ ∃ r0, t0.truck? i = some r0 ∧ r0.arc = r.arc ∧ r0.bar = old.bar
                  ∧ let hit := r0.contact.onWireSet = true ∧ old.arc < r0.arc ∧ s.limits.arcLimit ≤ r0.arc
                    (hit → r = { r0 with
                        contact := .lowering (some s.limits.lowerWindow), grant := 0, bar := some (1000 * s.limits.barTime) }
                      ∧ Notice.order i old.tag (.lower .contact s.limits.lowerWindow) s.cycleNo ∈ t.link.notices
                      ∧ t.alt = (t0.raiseAlert .contactFault r0.sec (some old.tag)).alt)
                    ∧ (¬ hit → t = { t0 with limits := s.limits })

/-- R43, R48, R49, R50, R51, R53, R56, R57, R59, R64, R65, R67, R70, R72, R75, R76, R77, R78, R93, R94. What the pantograph,
the direction and the position of an accepted REPORT do to the contact state: the end of contact, the clearance cancelled, the
unauthorised raise, the changed direction, the raise completed in and out of its zone, and the stay, move, re-queue or
cancellation of a WAITING truck; and with UP and the direction unchanged what R64 makes of the new position of a truck on the
wire, HELD or LOWERING, with a current of C or below taken as a confirmation. What leaves the truck CLEARED or on the wire is
stated for a report that does not bring the arc tally to its limit, a tally saturated at 63 not rising by the model's reading
(notes/assumptions/15.md). That a raise completed by a descending truck exactly at the lower bound of its section leaves it
ON-WIRE, and overrun by R84 only later, is the model's choice (notes/assumptions/26.md). The reply goes before the notices, and
the order of contact effects, demand cut and arc check is as the model reads it (notes/assumptions/8.md, 10.md, 17.md). -/
def Obligations.ReportsMoveTheContactState : Prop :=
  ∀ (h : ReqHdr) (x : ReportFields) (i : SlotIx) (old : Truck) (c : TruckClass) (d : Dir) (s t : State), Taken h 15 s →
    s.slotOf x.truck.toNat = some i → s.truck? i = some old → x.cls.toNat = c.code → x.dir.toNat = d.code →
    exec (.report h x) s = .next t →
    let p := min x.position.toNat 8191
    let new := s.sectionOf p
    let current := min x.current.toNat 3000
    let increment := match old.lastCount with
      | some n => min ((x.count.toNat + 256 - n) % 256) 32
      | none => 0
    let calm := min (old.arc + increment) 63 ≤ old.arc ∨ min (old.arc + increment) 63 < s.limits.arcLimit
    let window := s.limits.lowerWindow
    (x.panto.toNat = 0 →
      (old.contact.state ≠ .waiting → old.contact.state ≠ .cleared →
        (∀ r, t.truck? i = some r → r.contact = .enrolled ∧ r.sec = new ∧ (old.contact ≠ .enrolled → r.grant = 0))
        ∧ (s.beyondEnds { old with dir := d, est := p } = true → t.roster[i] = .releasePending)
        ∧ (s.beyondEnds { old with dir := d, est := p } = false → (t.truck? i).isSome = true))
      ∧ (∀ w, old.contact = .cleared w → d = old.dir → new = old.sec → calm →
          ∃ r, t.truck? i = some r ∧ r.contact = .cleared w)
      ∧ (∀ w, old.contact = .cleared w → d ≠ old.dir → ∃ r, t.truck? i = some r ∧ r.contact = .lowering (some window)
          ∧ Notice.order i old.tag (.lower .direction window) s.cycleNo ∈ t.link.notices)
      ∧ (∀ w, old.contact = .cleared w → d = old.dir → new ≠ old.sec →
          Notice.order i old.tag .raiseCancelled s.cycleNo ∈ t.link.notices
          ∧ (s.beyondEnds { old with dir := d, est := p } = true → t.roster[i] = .releasePending)
          ∧ (s.beyondEnds { old with dir := d, est := p } = false →
              ∃ r, t.truck? i = some r ∧ r.contact = .enrolled ∧ r.sec = new ∧ r.grant = 0))
      ∧ ∀ (k : SecIx) (e : QEntry), s.QueuesKept → old.contact = .waiting → old.sec = some k → e ∈ s.secs[k].queue →
          e.slot = i →
          let rest := s.secs[k].queue.filter fun y => decide (y.slot ≠ i)
          let fresh : QEntry := ⟨i, s.limits.patience c, decide (s.limits.patience c = 0)⟩
          (new = some k → (∃ r, t.truck? i = some r ∧ r.contact = .waiting ∧ r.sec = some k)
            ∧ t.secs[k].queue = (if d = old.dir then s.secs[k].queue else rest ++ [fresh])
            ∧ ∀ j : SecIx, j ≠ k → t.secs[j].queue = s.secs[j].queue)
          ∧ (∀ j : SecIx, j ≠ k → new = some j → s.secs[j].queue.length < 8 →
              (∃ r, t.truck? i = some r ∧ r.contact = .waiting ∧ r.sec = some j)
              ∧ t.secs[k].queue = rest ∧ t.secs[j].queue = s.secs[j].queue ++ [if d = old.dir then e else fresh]
              ∧ ∀ l : SecIx, l ≠ k → l ≠ j → t.secs[l].queue = s.secs[l].queue)
          ∧ ((new = none ∨ ∃ j : SecIx, j ≠ k ∧ new = some j ∧ 8 ≤ s.secs[j].queue.length) →
              t.secs[k].queue = rest ∧ (∀ l : SecIx, l ≠ k → t.secs[l].queue = s.secs[l].queue)
              ∧ Notice.order i old.tag .raiseCancelled s.cycleNo ∈ t.link.notices
              ∧ (s.beyondEnds { old with dir := d, est := p } = true → t.roster[i] = .releasePending)
              ∧ (s.beyondEnds { old with dir := d, est := p } = false →
                  ∃ r, t.truck? i = some r ∧ r.contact = .enrolled ∧ r.sec = new ∧ r.grant = 0)))
    ∧ (x.panto.toNat = 1 →
      ((old.contact = .enrolled ∨ old.contact = .waiting) →
        ∃ r, t.truck? i = some r ∧ r.contact = .lowering (some window) ∧ r.grant = 0
          ∧ Notice.order i old.tag (.lower .uncleared window) s.cycleNo ∈ t.link.notices
          ∧ ∀ (k : SecIx), ∀ e ∈ t.secs[k].queue, e.slot ≠ i)
      ∧ ((old.contact.onWireSet = true ∨ old.contact.state = .held) → d ≠ old.dir →
        ∃ r, t.truck? i = some r ∧ r.contact = .lowering (some window) ∧ r.grant = 0
          ∧ Notice.order i old.tag (.lower .direction window) s.cycleNo ∈ t.link.notices)
      ∧ (∀ w, old.contact = .cleared w → d = old.dir → new ≠ old.sec →
        ∃ r, t.truck? i = some r ∧ r.contact = .lowering (some window)
          ∧ Notice.order i old.tag (.lower .uncleared window) s.cycleNo ∈ t.link.notices)
      ∧ (∀ w, old.contact = .cleared w → d = old.dir → new = old.sec → 0 < s.limits.staleLimit → calm →
        ∃ r, t.truck? i = some r ∧ (r.zone, r.inside) = s.zoneOf r
          ∧ (r.inside = false → r.contact = .onWire)
          ∧ (r.inside = true → ∀ g, r.zone = .approach g →
              (current ≤ s.limits.c → r.contact = .crossing g)
              ∧ (s.limits.c < current → r.contact = .shedding g s.limits.shedDeadline
                  ∧ Notice.order i old.tag (.shed s.limits.shedDeadline s.limits.c) s.cycleNo ∈ t.link.notices))
          ∧ (r.inside = true → (r.zone = .topEnd ∨ r.zone = .bottomEnd) → r.contact = .lowering (some window)
              ∧ Notice.order i old.tag (.lower .atEnd window) s.cycleNo ∈ t.link.notices))
      ∧ (let r := { old with
            dir := d, est := p, panto := .up, current := current, age := 0, stalePoint := s.limits.staleLimit }
         let told (n : Notice) := n ∈ t.link.notices
         (∀ k cf, (old.contact = .onWire ∨ old.contact.state = .shedding) → d = old.dir → old.sec = some k →
            s.secs[k].settings = some cf → Reaches cf d p → Overran told i r k (decide (d = .climb)) s t)
         ∧ (old.contact.state = .lowering → Moves told False i r s t)
         ∧ (d = old.dir → 0 < s.limits.staleLimit → calm →
            old.contact.drawing = true ∨ old.contact.state = .held → Moves told (current ≤ s.limits.c) i r s t)))

/-- R44, R45, R46, R87, R88. RAISE is refused by its checks in their order; else the truck is CLEARED where its section is
LIVE, below its cap and its queue empty, takes a place at the tail of the queue where one is free, or is refused. A truck
whose report is too old is lowered or released at that entry, and the reply still tells the decision, before the notices:
the model's readings (notes/assumptions/20.md, 8.md). -/
def Obligations.RaiseClearsQueuesOrRefuses : Prop :=
  ∀ (h : ReqHdr) (tag : Half) (s : State), Taken h 4 s →
    let refused (why : Reason) (seconds : Nat) := ∃ t, exec (.raise h tag) s = .next t
      ∧ OnlyAnswers (.raise h tag) h 0x22 (.reject why seconds) s t
    (s.slotOf tag.toNat = none → refused .unknownTruck 0)
    ∧ ∀ (i : SlotIx) (r : Truck), s.slotOf tag.toNat = some i → s.truck? i = some r →
      (r.contact ≠ .enrolled → refused .state 0)
      ∧ (r.contact = .enrolled →
        (∀ ms, r.bar = some ms → refused .barred ((ms + 999) / 1000))
        ∧ (r.bar = none →
          ((r.sec = none ∨ r.inside = true) → refused .position 0)
          ∧ ∀ k, r.sec = some k → r.inside = false →
            let room := ∃ c, s.secs[k].settings = some c ∧ s.onWireCount k < c.cap
            (s.isLive k = true → room → s.secs[k].queue = [] →
              ∃ t, exec (.raise h tag) s = .next t ∧ Answers (.raise h tag) h 0x22 (.raise i true) s t
                ∧ PlantKept s t ∧ t.alt = s.alt ∧ (∀ j : SlotIx, j ≠ i → t.roster[j] = s.roster[j])
                ∧ (r.age < 3 * r.stalePoint →
                    t.truck? i = some { r with contact := .cleared s.limits.raiseWindow, grant := 0 }
                    ∧ Notice.order i r.tag (.clearToRaise s.limits.raiseWindow) s.cycleNo ∈ t.link.notices)
                ∧ (3 * r.stalePoint ≤ r.age →
                    t.truck? i = some { r with contact := .lowering (some s.limits.lowerWindow), grant := 0 }))
            ∧ ((s.isLive k = false ∨ ¬ room ∨ s.secs[k].queue ≠ []) →
                s.secs[k].queue.length < 8 →
              ∃ t, exec (.raise h tag) s = .next t ∧ Answers (.raise h tag) h 0x22 (.raise i false) s t
                ∧ PlantKept s t ∧ t.alt = s.alt ∧ (∀ j : SlotIx, j ≠ i → t.roster[j] = s.roster[j])
                ∧ (r.age < 60000 → t.truck? i = some { r with contact := .waiting }
                    ∧ t.secs[k].queue = s.secs[k].queue ++
                        [⟨i, s.limits.patience r.cls, decide (s.limits.patience r.cls = 0)⟩]
                    ∧ ∀ j : SecIx, j ≠ k → t.secs[j].queue = s.secs[j].queue)
                ∧ (60000 ≤ r.age → t.roster[i] = .releasePending
                    ∧ Notice.released i r.tag r.drawMeter r.drawWraps r.retMeter r.retWraps s.cycleNo ∈ t.link.notices
                    ∧ ∀ j : SecIx, t.secs[j].queue = s.secs[j].queue.filter fun e => decide (e.slot ≠ i)))
            ∧ ((s.isLive k = false ∨ ¬ room ∨ s.secs[k].queue ≠ []) → 8 ≤ s.secs[k].queue.length →
                refused .queueFull 0)))

/-- R33, R35, R95. DEPART releases a truck in ENROLLED or WAITING: its RELEASED notice carries its meters, its slot is
release pending, and it stands in no queue. In any other state it is refused. The reply goes before the notice by the model's
reading (notes/assumptions/8.md). -/
def Obligations.DepartReleasesAnIdleTruck : Prop :=
  ∀ (h : ReqHdr) (tag : Half) (s : State), Taken h 4 s →
    (s.slotOf tag.toNat = none →
      ∃ t, exec (.depart h tag) s = .next t ∧ OnlyAnswers (.depart h tag) h 0x23 (.reject .unknownTruck 0) s t)
    ∧ ∀ (i : SlotIx) (r : Truck), s.slotOf tag.toNat = some i → s.truck? i = some r →
      (r.contact ≠ .enrolled → r.contact ≠ .waiting →
        ∃ t, exec (.depart h tag) s = .next t ∧ OnlyAnswers (.depart h tag) h 0x23 (.reject .state 0) s t)
      ∧ ((r.contact = .enrolled ∨ r.contact = .waiting) →
        ∃ t, exec (.depart h tag) s = .next t ∧ Answers (.depart h tag) h 0x23 (.slot i) s t
          ∧ PlantKept s t ∧ t.alt = s.alt
          ∧ t.roster[i] = .releasePending ∧ (∀ j : SlotIx, j ≠ i → t.roster[j] = s.roster[j])
          ∧ t.link.notices = s.link.notices ++
              [.released i r.tag r.drawMeter r.drawWraps r.retMeter r.retWraps s.cycleNo]
          ∧ (∀ k : SecIx, t.secs[k].queue = s.secs[k].queue.filter fun e => decide (e.slot ≠ i))
          ∧ ∀ g : GapIx, t.seen[g] = if s.seen[g] = some i then none else s.seen[g])

/-- R47, R54, R68. The raise window ends in ENROLLED with ORDER RAISE-EXPIRED, or in a release; the lower window sets the
stuck mark and raises CONTACT-STUCK; the shed deadline ends in LOWERING with ORDER LOWER (SHED-LATE). The time left passes
before an expiry sent early: the model's choice (notes/assumptions/6.md). -/
def Obligations.WindowsRunOut : Prop :=
  (∀ (i : SlotIx) (r : Truck) (w : Nat) (s : State), s.truck? i = some r → r.contact = .cleared w →
    ∃ t, exec (.raiseWindowExpiry i) s = .next t
      ∧ t.steady = (s.elapse w).steady ∧ (∀ j : SlotIx, j ≠ i → t.roster[j] = (s.elapse w).roster[j])
      ∧ (60000 ≤ (r.elapse w).age ∨ (s.elapse w).beyondEnds r = true → t.roster[i] = .releasePending)
      ∧ ((r.elapse w).age < 60000 → (s.elapse w).beyondEnds r = false →
          t.truck? i = some { r.elapse w with contact := .enrolled, grant := 0 }
          ∧ OnItsWay (.order i r.tag .raiseExpired s.cycleNo) t ∧ OnlyTruck i (s.elapse w) t ∧ t.cycle = s.cycle))
  ∧ (∀ (i : SlotIx) (r : Truck) (w : Nat) (s : State), s.truck? i = some r → r.contact = .lowering (some w) →
    ∃ t, exec (.lowerWindowExpiry i) s = .next t
      ∧ t.truck? i = some { r.elapse w with contact := .lowering none }
      ∧ AlertHeld .contactStuck r.sec t
      ∧ OnlyTruck i (s.elapse w) { t with alt := s.alt } ∧ t.cycle = s.cycle)
  ∧ ∀ (i : SlotIx) (r : Truck) (g : GapIx) (w : Nat) (s : State), s.truck? i = some r → r.contact = .shedding g w →
    ∃ t, exec (.shedDeadlineExpiry i) s = .next t
      ∧ t.truck? i = some { r.elapse w with contact := .lowering (some s.limits.lowerWindow), grant := 0 }
      ∧ OnItsWay (.order i r.tag (.lower .shedLate s.limits.lowerWindow) s.cycleNo) t
      ∧ OthersKept i (s.elapse w) t ∧ t.steady = (s.elapse w).steady ∧ t.alt = s.alt ∧ t.seen = s.seen
      ∧ t.cycle = s.cycle

/-- R24, R25, R27, R28, R29. What a record's age and its running durations bring: the stale flag with a grant on the wire
cut to 0, ORDER LOWER (STALE) at three times the stale point, the idle release at 60,000 ms, a fall of the arc tally by 1
every 2,000 ms, and the end of a raise bar. The time left passes before a threshold or expiry sent early: the model's choice
(notes/assumptions/6.md). -/
def Obligations.AgesAndDurationsOfARecord : Prop :=
  (∀ (i : SlotIx) (r : Truck) (s : State), s.truck? i = some r → r.stale = false →
    ∃ t, exec (.stalePointPassed i) s = .next t
      ∧ t.truck? i = some { r.elapse (r.stalePoint + 1 - r.age) with
          stale := true, grant := if r.contact.drawing then 0 else r.grant }
      ∧ (r.contact.drawing = true → r.grant ≠ 0 → OnItsWay (.grant i r.tag 0 r.dir s.cycleNo) t)
      ∧ OnlyTruck i (s.elapse (r.stalePoint + 1 - r.age)) t ∧ t.cycle = s.cycle)
  ∧ (∀ (i : SlotIx) (r : Truck) (s : State), s.truck? i = some r → r.contact.onWireSet = true →
    ∃ t, exec (.staleLower i) s = .next t
      ∧ t.truck? i = some { r.elapse (3 * r.stalePoint - r.age) with
          contact := .lowering (some s.limits.lowerWindow), grant := 0 }
      ∧ OnItsWay (.order i r.tag (.lower .stale s.limits.lowerWindow) s.cycleNo) t
      ∧ OthersKept i (s.elapse (3 * r.stalePoint - r.age)) t
      ∧ t.steady = (s.elapse (3 * r.stalePoint - r.age)).steady ∧ t.alt = s.alt ∧ t.seen = s.seen ∧ t.cycle = s.cycle)
  ∧ (∀ (i : SlotIx) (r : Truck) (s : State), s.truck? i = some r → (r.contact = .enrolled ∨ r.contact = .waiting) →
    ∃ t, exec (.idleRelease i) s = .next t
      ∧ t.roster[i] = .releasePending
      ∧ OnItsWay (.released i r.tag r.drawMeter r.drawWraps r.retMeter r.retWraps s.cycleNo) t
      ∧ (∀ k : SecIx, t.secs[k].queue = s.secs[k].queue.filter fun e => decide (e.slot ≠ i))
      ∧ (∀ j : SlotIx, j ≠ i → t.roster[j] = (s.elapse (60000 - r.age)).roster[j])
      ∧ t.steady = (s.elapse (60000 - r.age)).steady ∧ t.alt = s.alt)
  ∧ (∀ (i : SlotIx) (r : Truck) (s : State), s.truck? i = some r →
    ∃ t, exec (.arcTallyDecay i) s = .next t
      ∧ t.truck? i = some { r.elapse r.decayTimer with arc := r.arc - 1, decayTimer := 2000 }
      ∧ OnlyTruck i (s.elapse r.decayTimer) t ∧ t.cycle = s.cycle)
  ∧ ∀ (i : SlotIx) (r : Truck) (w : Nat) (s : State), s.truck? i = some r → r.bar = some w →
    ∃ t, exec (.raiseBarExpiry i) s = .next t
      ∧ t.truck? i = some { r.elapse w with bar := none }
      ∧ OnlyTruck i (s.elapse w) t ∧ t.cycle = s.cycle

/-! ### Gap Monitor -/

/-- R3, R79, R80, R81. An activation of a gap's sensor marks the nearest SHEDDING, CROSSING or LOWERING truck within Z + E, the
lowest slot between equals, and orders it LOWER where it is SHEDDING; with none in reach, UNEXPECTED-BRIDGE is raised for
both sections. A gap that does not exist takes nothing, and a value that stands at active already, with no change of it handed
over, is no activation: that a command is itself the change where none is handed over is the model's reading
(notes/assumptions/7.md). An activation that finds no truck leaves a standing mark as it is by the model's reading
(notes/assumptions/18.md). -/
def Obligations.ActivationMarksTheNearestTruck : Prop :=
  (∀ (g : GapIx) (r : Truck) (s : State), s.reachable g r = true ↔
    (r.contact.state = .shedding ∨ r.contact.state = .crossing ∨ r.contact.state = .lowering)
    ∧ r.est ≤ s.gapPos g + (s.limits.z + s.limits.e) ∧ s.gapPos g ≤ r.est + (s.limits.z + s.limits.e))
  ∧ (∀ (g : GapIx) (s : State), (below g).val = g.val ∧ (above g).val = g.val + 1
    ∧ (s.gapExists g = true ↔ s.secs[below g].settings ≠ none ∧ s.secs[above g].settings ≠ none)
    ∧ ∀ c, s.secs[below g].settings = some c → s.gapPos g = c.upper)
  ∧ ∀ (g : GapIx) (s : State),
    let change := Change.gap g true ∈ s.ifl.handed ∨ s.ifl.gaps[g].value = false
    (s.gapExists g = false → s.LineBusy →
      ∃ t, exec (.gapSensorActivation g) s = .next t ∧ t = { s with ifl := t.ifl })
    ∧ (¬ change → s.LineBusy → ∃ t, exec (.gapSensorActivation g) s = .next t ∧ t = s)
    ∧ (s.gapExists g = true → change → (∀ (i : SlotIx) (r : Truck), s.truck? i = some r → s.reachable g r = false) →
        s.LineBusy →
      ∃ t, exec (.gapSensorActivation g) s = .next t
        ∧ AlertHeld .unexpectedBridge (some (below g)) t ∧ AlertHeld .unexpectedBridge (some (above g)) t
        ∧ t = { s with ifl := t.ifl, alt := t.alt })
    ∧ ∀ (i : SlotIx) (r : Truck), s.gapExists g = true → change → s.truck? i = some r → s.reachable g r = true →
      (∀ (j : SlotIx) (q : Truck), s.truck? j = some q → s.reachable g q = true →
        Machine.dist r.est (s.gapPos g) < Machine.dist q.est (s.gapPos g)
        ∨ (Machine.dist r.est (s.gapPos g) = Machine.dist q.est (s.gapPos g) ∧ i ≤ j)) →
      ∃ t, exec (.gapSensorActivation g) s = .next t
        ∧ t.seen[g] = some i ∧ (∀ f : GapIx, f ≠ g → t.seen[f] = s.seen[f])
        ∧ t.steady = { s.steady with ifl := t.ifl }
        ∧ (r.contact.state ≠ .shedding → s.LineBusy → t = { s with ifl := t.ifl, seen := t.seen })
        ∧ (r.contact.state = .shedding →
            t.truck? i = some { r with contact := .lowering (some s.limits.lowerWindow), grant := 0 }
            ∧ OnItsWay (.order i r.tag (.lower .overrun s.limits.lowerWindow) s.cycleNo) t
            ∧ AlertHeld .gapOverrun (some (below g)) t ∧ AlertHeld .gapOverrun (some (above g)) t
            ∧ OthersKept i s t)

/-- R3, R73, R74, R79, R82. A deactivation transfers the marked truck where it is CROSSING this gap: its estimate is brought to
the gap, its grant is 0, and it is ON-WIRE in the section across, or as its zone there makes of it, or HELD there with a prior
grant of 0 where that is not LIVE, or overrun at the far end. In every case the mark is cleared. Under a gap that does not
exist, and with no mark present, nothing changes; nor where the value stands at inactive already with no change of it handed
over, a command being itself the change where none is handed over by the model's reading (notes/assumptions/7.md). -/
def Obligations.DeactivationTransfersTheMarkedTruck : Prop :=
  ∀ (g : GapIx) (s : State),
    let change := Change.gap g false ∈ s.ifl.handed ∨ s.ifl.gaps[g].value = true
    ((s.gapExists g = false ∨ s.seen[g] = none) → s.LineBusy →
      ∃ t, exec (.gapSensorDeactivation g) s = .next t ∧ t = { s with ifl := t.ifl })
    ∧ (¬ change → s.LineBusy → ∃ t, exec (.gapSensorDeactivation g) s = .next t ∧ t = s)
    ∧ (s.gapExists g = true → change →
        (∀ (i : SlotIx) (r : Truck), s.seen[g] = some i → s.truck? i = some r → r.contact ≠ .crossing g) → s.LineBusy →
      ∃ t, exec (.gapSensorDeactivation g) s = .next t
        ∧ t = { s with ifl := t.ifl, seen := s.seen.set g none })
    ∧ ∀ (i : SlotIx) (r : Truck), s.gapExists g = true → change → s.seen[g] = some i → s.truck? i = some r →
        r.contact = .crossing g →
      let e := match r.dir with
        | .climb => max r.est (s.gapPos g)
        | .descend => min r.est (s.gapPos g - 1)
      ∃ t, exec (.gapSensorDeactivation g) s = .next t
        ∧ t.seen = s.seen.set g none ∧ t.steady = { s.steady with ifl := t.ifl } ∧ OthersKept i s t
        ∧ Transferred (OnItsWay · t) False i g { r with est := e } s t

/-! ### Budget Engine -/

/-- R103, R105 to R117. A cycle takes its inputs from the oldest waiting scan and the state as it stands; for each LIVE section
it computes the ceiling, and a grant for each of its fresh ON-WIRE trucks and for no other. What the ceiling leaves after its
deductions is shared class by class, and what the return pool leaves among the descending trucks; a grant falls to its target
at once and rises by no more than the slew, and never above the demand. Nothing else changes. -/
def Obligations.CycleTakesItsInputs : Prop :=
  ∀ (r : ScanResult) (q : List ScanResult) (s : State), s.cycle = none → s.bgeScans = r :: q → s.LineBusy →
    ∃ cy : Cycle, exec .budgetCycleInputs s = .next { s with bgeScans := q, cycle := some cy }
      ∧ cy.dt = r.delta ∧ cy.vMin = s.limits.vMin ∧ cy.vMax = s.limits.vMax ∧ cy.c = s.limits.c
      ∧ cy.slew = s.limits.slew ∧ cy.discard = false
      ∧ (∀ k : SecIx, cy.secs[k] =
          { settings := s.secs[k].settings, live := s.isLive k, period := s.secs[k].budget.livePeriod
            heat := s.secs[k].prot.heat, sag := s.secs[k].prot.sag, deduction := s.secs[k].prot.deduction
            fixedLoad := s.secs[k].prot.fixedLoad, pointer := s.secs[k].budget.pointer
            feedVoltage := r.feedVoltage k })
      ∧ (∀ i : SlotIx, cy.trucks[i] = (s.truck? i).map fun t =>
          ⟨t.sec, t.dir, t.cls, t.contact, t.stale, t.est, t.speed, t.current, t.demand, t.grant, t.firstCap,
            false, false, false⟩)
      ∧ (∀ k : SecIx, (s.isLive k = false ∨ s.secs[k].settings = none) → cy.outs[k] = none)
      ∧ (∀ (k : SecIx) (c : Settings), s.isLive k = true → s.secs[k].settings = some c →
          ∃ (o : SecOut) (far : Nat), cy.outs[k] = some o
            ∧ 50 ≤ far
            ∧ (∀ (i : SlotIx) (t : Truck), s.truck? i = some t → t.sec = some k → t.dir = .climb →
                t.contact.drawing = true → t.est - c.feed ≤ far ∧ c.feed - t.est ≤ far)
            ∧ (far = 50 ∨ ∃ (i : SlotIx) (t : Truck), s.truck? i = some t ∧ t.sec = some k ∧ t.dir = .climb
                ∧ t.contact.drawing = true ∧ (far = t.est - c.feed ∨ far = c.feed - t.est))
            ∧ o.ceiling =
                min (if s.secs[k].prot.heat < c.heatLimit / 2 then c.fp else c.f)
                  (min ((r.feedVoltage k - s.limits.vMin) * 100000 / (c.r * far)) 12000) * s.secs[k].prot.sag / 8
            ∧ (o.cut = true ↔ s.limits.vMax ≤ r.feedVoltage k)
            ∧ let passing := s.sumTrucks fun t => if t.sec = some k ∧ t.contact.passing = true then 1 else 0
              let q := (o.ceiling - s.secs[k].prot.deduction - s.secs[k].prot.fixedLoad - s.limits.c * passing) / 10
              let pool := if o.cut = true then 0 else min c.returnCeiling (s.drawSum k) / 10 * 10
              let kept := s.sumTrucks fun t =>
                if t.sec = some k ∧ t.dir = .descend ∧ t.contact.passing = true then t.grant else 0
              let pr := (pool - kept) / 10
              (∀ (i : SlotIx) (t : Truck), s.truck? i = some t → t.sec = some k → t.contact = .onWire → t.stale = false →
                let mine := s.share k q pr t
                let rivals := s.claims k t.rival
                let target := if totalDemand rivals ≤ mine then t.quanta
                  else splitTarget mine s.secs[k].budget.pointer rivals ⟨i, t.quanta, t.grant⟩
                cy.grants[i] = some (if t.grant < 10 * target then min (10 * target) (t.grant + s.limits.slew)
                  else 10 * target))
              ∧ (o.split = true ↔ ∃ (i : SlotIx) (t : Truck), s.truck? i = some t ∧ t.sec = some k ∧ t.contact = .onWire
                  ∧ t.stale = false ∧ 0 < s.share k q pr t ∧ s.share k q pr t < totalDemand (s.claims k t.rival)))
      ∧ ∀ i : SlotIx,
          ((cy.grants[i]).isSome = true ↔ ∃ (t : Truck) (k : SecIx), s.truck? i = some t ∧ t.sec = some k
            ∧ s.isLive k = true ∧ s.secs[k].settings ≠ none ∧ t.contact = .onWire ∧ t.stale = false)
          ∧ ∀ (g : Nat) (t : Truck), cy.grants[i] = some g → s.truck? i = some t →
              g ≤ t.demand ∧ g ≤ t.grant + s.limits.slew

/-- R111, R112. Where the demands of a class exceed the quanta left to it, its targets sum to those quanta exactly. Each is
the truck's share or, where its remainder is above 0, one more, and none exceeds its demand. A truck that receives a
quantum more than its share goes before, in the order of R112, every truck that does not. -/
def Obligations.SharesSumToTheQuanta : Prop :=
  ∀ (q : Nat) (ptr : SlotIx) (cs : List Claim), (cs.map (·.slot)).Nodup → q < totalDemand cs →
    (cs.map (splitTarget q ptr cs)).sum = q
    ∧ (cs.map fun c => q * c.d % totalDemand cs).sum = leftOver q cs * totalDemand cs
    ∧ (∀ c ∈ cs, splitTarget q ptr cs c ≤ c.d
        ∧ (splitTarget q ptr cs c = q * c.d / totalDemand cs
          ∨ (splitTarget q ptr cs c = q * c.d / totalDemand cs + 1 ∧ 0 < q * c.d % totalDemand cs)))
    ∧ ∀ a ∈ cs, ∀ b ∈ cs, splitTarget q ptr cs a = q * a.d / totalDemand cs + 1 →
        splitTarget q ptr cs b = q * b.d / totalDemand cs →
        q * b.d % totalDemand cs < q * a.d % totalDemand cs
        ∨ (q * b.d % totalDemand cs = q * a.d % totalDemand cs
            ∧ (a.slot - ptr).val < (b.slot - ptr).val)

/-- R119, R120, R121, R122, R123, R125. A publication ends its cycle and raises the cycle number. A section that is LIVE in the
same live period, of a cycle that is not discarded, gets its ceiling and, where a split was counted, its pointer moved on;
each of its trucks is left the grant that R120 to R122 give it, with a GRANT notice where it changes, and no other truck is
touched. Where no truck moves at the cycle's end, these are the grants the command leaves. The excess over the ceiling is
taken in whole quanta by the model's reading (notes/assumptions/23.md). -/
def Obligations.PublicationAppliesTheCycle : Prop :=
  (∀ (cy : Cycle) (s : State), s.cycle = some cy →
    ∃ t, exec .budgetCyclePublication s = .next t
      ∧ t.cycle = none ∧ t.cycleNo = (s.cycleNo + 1) % 65536
      ∧ t.steady = { s.steady with cycleNo := t.cycleNo, secs := t.plant.secs }
      ∧ (∀ k : SecIx, t.secs[k].feeder = s.secs[k].feeder ∧ t.secs[k].prot = s.secs[k].prot
        ∧ t.secs[k].settings = s.secs[k].settings
        ∧ t.secs[k].budget = match cy.outs[k] with
          | some o => if s.isLive k = true ∧ s.secs[k].budget.livePeriod = cy.secs[k].period ∧ cy.discard = false then
              { s.secs[k].budget with
                ceiling := o.ceiling, ceilingCycle := t.cycleNo
                pointer := if o.split then s.secs[k].budget.pointer + 1 else s.secs[k].budget.pointer }
            else s.secs[k].budget
          | none => s.secs[k].budget)
      ∧ (s.QueuesKept → (∀ (i : SlotIx) (r : Truck) (n : TruckIn), s.truck? i = some r → cy.trucks[i] = some n →
            n.stale = true ∨ n.reported = true ∨ n.transferred = true ∨ (moved r.est r.rem (n.speed * cy.dt) n.dir).1 = r.est) →
          ∀ (i : SlotIx) (r r' : Truck) (k : SecIx), s.truck? i = some r → r.sec = some k → r.contact ≠ .waiting →
            t.truck? i = some r' →
            r'.contact = r.contact
            ∧ (∀ o, cy.outs[k] = some o → s.isLive k = true → s.secs[k].budget.livePeriod = cy.secs[k].period →
                cy.discard = false → r'.grant = s.publishedGrant cy k o i r)
            ∧ ((cy.outs[k] = none ∨ s.isLive k = false ∨ s.secs[k].budget.livePeriod ≠ cy.secs[k].period
                ∨ cy.discard = true) → r'.grant = r.grant)))
  ∧ ∀ (cy : Cycle) (o : SecOut) (k : SecIx) (cycle : Nat) (s : State),
      cy.outs[k] = some o → s.isLive k = true → s.secs[k].budget.livePeriod = cy.secs[k].period → cy.discard = false →
      (∀ (i : SlotIx) (r : Truck), s.truck? i = some r → r.sec = some k →
        (s.publishSection cy cycle k).truck? i = some { r with grant := s.publishedGrant cy k o i r }
        ∧ (s.publishedGrant cy k o i r ≠ r.grant →
            Notice.grant i r.tag (s.publishedGrant cy k o i r) r.dir cycle ∈ (s.publishSection cy cycle k).link.notices))
      ∧ ∀ i : SlotIx, (∀ r, s.truck? i = some r → r.sec ≠ some k) →
          (s.publishSection cy cycle k).roster[i] = s.roster[i]

/-- R30, R31, R32, R34, R48, R50, R59, R64, R65, R72, R73, R75, R76, R77, R78, R89, R91, R93, R124. At the end of a cycle a
first-cycle cap the cycle took goes, unless a restore came since, by this end too for a HELD or CROSSING truck that moves;
each record the cycle took is metered by what the cycle took of it, and a fresh one that has neither reported nor been
transferred into ON-WIRE since (notes/assumptions/25.md) moves by its speed times Δt in its direction, with the remainder
carried and the ends of the line as bounds. A truck that alone moves is released, cancelled, restored, overrun, transferred,
shed or lowered as R64 makes of its new estimate, and where it is WAITING it moves to the tail of its new section's queue or
is cancelled; that a descending HELD truck restored exactly at the lower bound of its section stays ON-WIRE is the model's
choice (notes/assumptions/26.md). Then every countdown falls by 1, and each LIVE section clears its eligible entries, the
urgent ones and then the higher classes first, the oldest first among equals, until its cap is reached or none is left. The
queues of LIVE sections are stated for a cycle that moves no WAITING truck. -/
def Obligations.CycleMovesAndMetersTrucks : Prop :=
  (∀ (cy : Cycle) (i : SlotIx) (r r' : Truck) (n : TruckIn) (s t : State), s.cycle = some cy →
    exec .budgetCyclePublication s = .next t → s.truck? i = some r → cy.trucks[i] = some n → t.truck? i = some r' →
    (r'.drawMeter, r'.drawWraps) =
        (if n.contact.metered = true ∧ n.dir = .climb then addCharge r.drawMeter r.drawWraps (n.current * cy.dt)
         else (r.drawMeter, r.drawWraps))
    ∧ (r'.retMeter, r'.retWraps) =
        (if n.contact.metered = true ∧ n.dir = .descend then addCharge r.retMeter r.retWraps (n.current * cy.dt)
         else (r.retMeter, r.retWraps))
    ∧ (r'.est, r'.rem) =
        (if n.stale = true ∨ n.reported = true ∨ n.transferred = true then (r.est, r.rem)
         else moved r.est r.rem (n.speed * cy.dt) n.dir)
    ∧ (((r.contact.state ≠ .held ∧ r.contact.state ≠ .crossing) ∨ r'.est = r.est) →
        r'.firstCap = if n.firstCap.isSome = true ∧ n.restored = false then none else r.firstCap)
    ∧ r'.tag = r.tag ∧ r'.dir = r.dir ∧ r'.current = r.current ∧ r'.demand = r.demand ∧ r'.age = r.age)
  ∧ (∀ (cy : Cycle) (i : SlotIx) (r : Truck) (n : TruckIn) (s t : State), s.cycle = some cy → s.QueuesKept →
    exec .budgetCyclePublication s = .next t → s.truck? i = some r → cy.trucks[i] = some n →
    (∀ (j : SlotIx) (q : Truck) (m : TruckIn), j ≠ i → s.truck? j = some q → cy.trucks[j] = some m →
      m.stale = true ∨ m.reported = true ∨ m.transferred = true ∨ (moved q.est q.rem (m.speed * cy.dt) m.dir).1 = q.est) →
    n.stale = false → n.reported = false → n.transferred = false →
    (moved r.est r.rem (n.speed * cy.dt) n.dir).1 ≠ r.est →
    let m := moved r.est r.rem (n.speed * cy.dt) n.dir
    let u := { r with est := m.1, rem := m.2 }
    let new := s.sectionOf u.est
    (r.contact ≠ .waiting → Moves (OnItsWay · t) False i u { s with cycleNo := t.cycleNo } t)
    ∧ ∀ (k : SecIx) (e : QEntry), r.contact = .waiting → r.sec = some k → e ∈ s.secs[k].queue → e.slot = i →
        let tick (x : QEntry) : QEntry :=
          { x with countdown := x.countdown - 1, urgent := x.urgent || decide (x.countdown = 1) }
        let rest := s.secs[k].queue.filter fun y => decide (y.slot ≠ i)
        (new ≠ some k → s.isLive k = false → t.secs[k].queue = rest.map tick)
        ∧ (∀ j : SecIx, j ≠ k → s.isLive j = false → (new ≠ some j ∨ 8 ≤ s.secs[j].queue.length) →
            t.secs[j].queue = s.secs[j].queue.map tick)
        ∧ (new = some k → s.isLive k = false → t.secs[k].queue = s.secs[k].queue.map tick)
        ∧ (∀ j : SecIx, new = some j → (j = k ∨ s.secs[j].queue.length < 8) →
            ∃ r', t.truck? i = some r' ∧ r'.sec = some j
              ∧ (s.isLive j = false → r'.contact = .waiting)
              ∧ (r'.contact = .waiting ∨ r'.contact = .cleared s.limits.raiseWindow
                ∨ r'.contact = .lowering (some s.limits.lowerWindow))
              ∧ (j ≠ k → s.isLive j = false → t.secs[j].queue = (s.secs[j].queue ++ [e]).map tick))
        ∧ ((new = none ∨ ∃ j : SecIx, j ≠ k ∧ new = some j ∧ 8 ≤ s.secs[j].queue.length) →
            OnItsWay (.order i r.tag .raiseCancelled t.cycleNo) t
            ∧ (∀ l : SecIx, ∀ y ∈ t.secs[l].queue, y.slot ≠ i)
            ∧ (s.beyondEnds u = true ∨ 60000 ≤ r.age → t.roster[i] = .releasePending)
            ∧ (s.beyondEnds u = false → r.age < 60000 →
                ∃ r', t.truck? i = some r' ∧ r'.contact = .enrolled ∧ r'.sec = new ∧ r'.grant = 0)))
  ∧ (∀ (cy : Cycle) (k : SecIx) (s : State), s.cycle = some cy → s.QueuesKept →
    (∀ (i : SlotIx) (r : Truck) (n : TruckIn), s.truck? i = some r → r.contact = .waiting → cy.trucks[i] = some n →
      n.stale = true ∨ n.reported = true ∨ n.transferred = true ∨ (moved r.est r.rem (n.speed * cy.dt) n.dir).1 = r.est) →
    let q : List QEntry := s.secs[k].queue.map fun e =>
      { e with countdown := e.countdown - 1, urgent := e.urgent || decide (e.countdown = 1) }
    let eligible (e : QEntry) := ∃ r, s.truck? e.slot = some r ∧ r.bar = none ∧ r.inside = false
    ∃ t, exec .budgetCyclePublication s = .next t
      ∧ (s.isLive k = false → t.secs[k].queue = q)
      ∧ ∀ c, s.isLive k = true → s.secs[k].settings = some c →
          t.secs[k].queue.Sublist q
          ∧ (c.cap ≤ t.onWireCount k ∨ ∀ e ∈ t.secs[k].queue, ¬ eligible e)
          ∧ (t.secs[k].queue ≠ q → t.onWireCount k ≤ c.cap)
          ∧ (∀ e ∈ q, e ∉ t.secs[k].queue → eligible e
              ∧ ∃ r r', s.truck? e.slot = some r ∧ t.truck? e.slot = some r' ∧ r'.grant = 0
                ∧ (r.age < 3 * r.stalePoint → r'.contact = .cleared s.limits.raiseWindow
                    ∧ OnItsWay (.order e.slot r.tag (.clearToRaise s.limits.raiseWindow) t.cycleNo) t)
                ∧ (3 * r.stalePoint ≤ r.age → r'.contact = .lowering (some s.limits.lowerWindow)
                    ∧ OnItsWay (.order e.slot r.tag (.lower .stale s.limits.lowerWindow) t.cycleNo) t))
          ∧ ∀ (a b : Nat) (x y : QEntry) (rx ry : Truck), q[a]? = some x → q[b]? = some y → s.truck? x.slot = some rx →
              s.truck? y.slot = some ry → x ∉ t.secs[k].queue → y ∈ t.secs[k].queue → eligible y →
              (x.urgent = true ∧ y.urgent = false)
              ∨ (x.urgent = true ∧ y.urgent = true ∧ a < b)
              ∨ (x.urgent = false ∧ y.urgent = false
                  ∧ (rx.cls.code < ry.cls.code ∨ (rx.cls.code = ry.cls.code ∧ a < b))))
  ∧ (∀ meter wraps charge : Nat, meter < 4294967296 → charge ≤ 3000000 → wraps < 255 →
      (addCharge meter wraps charge).1 < 4294967296
      ∧ (addCharge meter wraps charge).1 + 4294967296 * (addCharge meter wraps charge).2
          = meter + charge + 4294967296 * wraps)
  ∧ ∀ (est rem travel : Nat), rem < 10000 → est ≤ 8191 →
      let up := moved est rem travel .climb
      let down := moved est rem travel .descend
      up.1 ≤ 8191 ∧ up.2 < 10000 ∧ down.1 ≤ 8191 ∧ down.2 < 10000
      ∧ (est + (rem + travel) / 10000 ≤ 8191 → 10000 * up.1 + up.2 = 10000 * est + rem + travel)
      ∧ (8191 < est + (rem + travel) / 10000 → up = (8191, 0))
      ∧ ((rem + travel) / 10000 ≤ est → 10000 * (est - down.1) + down.2 = rem + travel)
      ∧ (est < (rem + travel) / 10000 → down = (0, 0))

/-! ### What the manual promises of every grant -/

/-- R16, R21, R120. No truck's grant exceeds its demand as last reported, and every demand and grant is a whole number of quanta
of 10 A, the demands up to 3,000 A: every step keeps it. At the ceiling check that rests on the model's reading of R121
(notes/assumptions/23.md). -/
def Obligations.EveryStepKeepsGrantsWithinDemand : Prop :=
  (∀ s t : State, s.WithinDemand → step s = .next t → t.WithinDemand)
  ∧ ∀ s t : State, s.QuantaKept → step s = .next t → t.QuantaKept

/-- R41, R86, R118, R121. A truck out of ON-WIRE, SHEDDING and CROSSING, or in no LIVE section, holds a grant of 0; in every
LIVE section the return grants sum to no more than its trim pool; and a truck stands in a queue, once and in its section's,
exactly while it is WAITING: every step keeps it. -/
def Obligations.EveryStepKeepsReturnsCovered : Prop :=
  ∀ s t : State, s.ReturnSafe → step s = .next t → t.ReturnSafe

/-- R27, R41, R107, R121. In every LIVE section the grants of the climbing trucks sum to no more than the published ceiling,
and a stale truck holds a grant of 0: every step keeps it, with what a cycle in progress has computed. -/
def Obligations.EveryStepKeepsDrawsWithinTheCeiling : Prop :=
  ∀ s t : State, s.DrawSafe → step s = .next t → t.DrawSafe
end

