-- ==== Sys2Proof/Laws/State.lean ====
section
/-! SUPPORT. Reading a field of the state after each plain update of it: one lemma per field and update. -/

namespace Sys2Proof.Machine

/-! ### modSec -/

@[simp] theorem State.modSec_now (s : State) (k : SecIx) (f : Sec → Sec) : (s.modSec k f).now = s.now := rfl
@[simp] theorem State.modSec_limits (s : State) (k : SecIx) (f : Sec → Sec) : (s.modSec k f).limits = s.limits := rfl
@[simp] theorem State.modSec_secs (s : State) (k : SecIx) (f : Sec → Sec) :
    (s.modSec k f).secs = s.secs.set k (f s.secs[k]) := rfl
@[simp] theorem State.modSec_source (s : State) (k : SecIx) (f : Sec → Sec) : (s.modSec k f).source = s.source := rfl
@[simp] theorem State.modSec_waitList (s : State) (k : SecIx) (f : Sec → Sec) : (s.modSec k f).waitList = s.waitList := rfl
@[simp] theorem State.modSec_busTrip (s : State) (k : SecIx) (f : Sec → Sec) : (s.modSec k f).busTrip = s.busTrip := rfl
@[simp] theorem State.modSec_roster (s : State) (k : SecIx) (f : Sec → Sec) : (s.modSec k f).roster = s.roster := rfl
@[simp] theorem State.modSec_seen (s : State) (k : SecIx) (f : Sec → Sec) : (s.modSec k f).seen = s.seen := rfl
@[simp] theorem State.modSec_cycleNo (s : State) (k : SecIx) (f : Sec → Sec) : (s.modSec k f).cycleNo = s.cycleNo := rfl
@[simp] theorem State.modSec_cycle (s : State) (k : SecIx) (f : Sec → Sec) : (s.modSec k f).cycle = s.cycle := rfl
@[simp] theorem State.modSec_bgeScans (s : State) (k : SecIx) (f : Sec → Sec) : (s.modSec k f).bgeScans = s.bgeScans := rfl
@[simp] theorem State.modSec_fprScans (s : State) (k : SecIx) (f : Sec → Sec) : (s.modSec k f).fprScans = s.fprScans := rfl
@[simp] theorem State.modSec_fsqScans (s : State) (k : SecIx) (f : Sec → Sec) : (s.modSec k f).fsqScans = s.fsqScans := rfl
@[simp] theorem State.modSec_smp (s : State) (k : SecIx) (f : Sec → Sec) : (s.modSec k f).smp = s.smp := rfl
@[simp] theorem State.modSec_ifl (s : State) (k : SecIx) (f : Sec → Sec) : (s.modSec k f).ifl = s.ifl := rfl
@[simp] theorem State.modSec_alt (s : State) (k : SecIx) (f : Sec → Sec) : (s.modSec k f).alt = s.alt := rfl
@[simp] theorem State.modSec_link (s : State) (k : SecIx) (f : Sec → Sec) : (s.modSec k f).link = s.link := rfl
@[simp] theorem State.modSec_pending (s : State) (k : SecIx) (f : Sec → Sec) : (s.modSec k f).pending = s.pending := rfl

/-! ### modFeeder -/

@[simp] theorem State.modFeeder_now (s : State) (k : SecIx) (f : Feeder → Feeder) : (s.modFeeder k f).now = s.now := rfl
@[simp] theorem State.modFeeder_limits (s : State) (k : SecIx) (f : Feeder → Feeder) : (s.modFeeder k f).limits = s.limits := rfl
@[simp] theorem State.modFeeder_secs (s : State) (k : SecIx) (f : Feeder → Feeder) :
    (s.modFeeder k f).secs = s.secs.set k { s.secs[k] with feeder := f s.secs[k].feeder } := rfl
@[simp] theorem State.modFeeder_source (s : State) (k : SecIx) (f : Feeder → Feeder) : (s.modFeeder k f).source = s.source := rfl
@[simp] theorem State.modFeeder_waitList (s : State) (k : SecIx) (f : Feeder → Feeder) : (s.modFeeder k f).waitList = s.waitList := rfl
@[simp] theorem State.modFeeder_busTrip (s : State) (k : SecIx) (f : Feeder → Feeder) : (s.modFeeder k f).busTrip = s.busTrip := rfl
@[simp] theorem State.modFeeder_roster (s : State) (k : SecIx) (f : Feeder → Feeder) : (s.modFeeder k f).roster = s.roster := rfl
@[simp] theorem State.modFeeder_seen (s : State) (k : SecIx) (f : Feeder → Feeder) : (s.modFeeder k f).seen = s.seen := rfl
@[simp] theorem State.modFeeder_cycleNo (s : State) (k : SecIx) (f : Feeder → Feeder) : (s.modFeeder k f).cycleNo = s.cycleNo := rfl
@[simp] theorem State.modFeeder_cycle (s : State) (k : SecIx) (f : Feeder → Feeder) : (s.modFeeder k f).cycle = s.cycle := rfl
@[simp] theorem State.modFeeder_bgeScans (s : State) (k : SecIx) (f : Feeder → Feeder) : (s.modFeeder k f).bgeScans = s.bgeScans := rfl
@[simp] theorem State.modFeeder_fprScans (s : State) (k : SecIx) (f : Feeder → Feeder) : (s.modFeeder k f).fprScans = s.fprScans := rfl
@[simp] theorem State.modFeeder_fsqScans (s : State) (k : SecIx) (f : Feeder → Feeder) : (s.modFeeder k f).fsqScans = s.fsqScans := rfl
@[simp] theorem State.modFeeder_smp (s : State) (k : SecIx) (f : Feeder → Feeder) : (s.modFeeder k f).smp = s.smp := rfl
@[simp] theorem State.modFeeder_ifl (s : State) (k : SecIx) (f : Feeder → Feeder) : (s.modFeeder k f).ifl = s.ifl := rfl
@[simp] theorem State.modFeeder_alt (s : State) (k : SecIx) (f : Feeder → Feeder) : (s.modFeeder k f).alt = s.alt := rfl
@[simp] theorem State.modFeeder_link (s : State) (k : SecIx) (f : Feeder → Feeder) : (s.modFeeder k f).link = s.link := rfl
@[simp] theorem State.modFeeder_pending (s : State) (k : SecIx) (f : Feeder → Feeder) : (s.modFeeder k f).pending = s.pending := rfl

/-! ### modProt -/

@[simp] theorem State.modProt_now (s : State) (k : SecIx) (f : Prot → Prot) : (s.modProt k f).now = s.now := rfl
@[simp] theorem State.modProt_limits (s : State) (k : SecIx) (f : Prot → Prot) : (s.modProt k f).limits = s.limits := rfl
@[simp] theorem State.modProt_secs (s : State) (k : SecIx) (f : Prot → Prot) :
    (s.modProt k f).secs = s.secs.set k { s.secs[k] with prot := f s.secs[k].prot } := rfl
@[simp] theorem State.modProt_source (s : State) (k : SecIx) (f : Prot → Prot) : (s.modProt k f).source = s.source := rfl
@[simp] theorem State.modProt_waitList (s : State) (k : SecIx) (f : Prot → Prot) : (s.modProt k f).waitList = s.waitList := rfl
@[simp] theorem State.modProt_busTrip (s : State) (k : SecIx) (f : Prot → Prot) : (s.modProt k f).busTrip = s.busTrip := rfl
@[simp] theorem State.modProt_roster (s : State) (k : SecIx) (f : Prot → Prot) : (s.modProt k f).roster = s.roster := rfl
@[simp] theorem State.modProt_seen (s : State) (k : SecIx) (f : Prot → Prot) : (s.modProt k f).seen = s.seen := rfl
@[simp] theorem State.modProt_cycleNo (s : State) (k : SecIx) (f : Prot → Prot) : (s.modProt k f).cycleNo = s.cycleNo := rfl
@[simp] theorem State.modProt_cycle (s : State) (k : SecIx) (f : Prot → Prot) : (s.modProt k f).cycle = s.cycle := rfl
@[simp] theorem State.modProt_bgeScans (s : State) (k : SecIx) (f : Prot → Prot) : (s.modProt k f).bgeScans = s.bgeScans := rfl
@[simp] theorem State.modProt_fprScans (s : State) (k : SecIx) (f : Prot → Prot) : (s.modProt k f).fprScans = s.fprScans := rfl
@[simp] theorem State.modProt_fsqScans (s : State) (k : SecIx) (f : Prot → Prot) : (s.modProt k f).fsqScans = s.fsqScans := rfl
@[simp] theorem State.modProt_smp (s : State) (k : SecIx) (f : Prot → Prot) : (s.modProt k f).smp = s.smp := rfl
@[simp] theorem State.modProt_ifl (s : State) (k : SecIx) (f : Prot → Prot) : (s.modProt k f).ifl = s.ifl := rfl
@[simp] theorem State.modProt_alt (s : State) (k : SecIx) (f : Prot → Prot) : (s.modProt k f).alt = s.alt := rfl
@[simp] theorem State.modProt_link (s : State) (k : SecIx) (f : Prot → Prot) : (s.modProt k f).link = s.link := rfl
@[simp] theorem State.modProt_pending (s : State) (k : SecIx) (f : Prot → Prot) : (s.modProt k f).pending = s.pending := rfl

/-! ### modBudget -/

@[simp] theorem State.modBudget_now (s : State) (k : SecIx) (f : SecBudget → SecBudget) : (s.modBudget k f).now = s.now := rfl
@[simp] theorem State.modBudget_limits (s : State) (k : SecIx) (f : SecBudget → SecBudget) : (s.modBudget k f).limits = s.limits := rfl
@[simp] theorem State.modBudget_secs (s : State) (k : SecIx) (f : SecBudget → SecBudget) :
    (s.modBudget k f).secs = s.secs.set k { s.secs[k] with budget := f s.secs[k].budget } := rfl
@[simp] theorem State.modBudget_source (s : State) (k : SecIx) (f : SecBudget → SecBudget) : (s.modBudget k f).source = s.source := rfl
@[simp] theorem State.modBudget_waitList (s : State) (k : SecIx) (f : SecBudget → SecBudget) : (s.modBudget k f).waitList = s.waitList := rfl
@[simp] theorem State.modBudget_busTrip (s : State) (k : SecIx) (f : SecBudget → SecBudget) : (s.modBudget k f).busTrip = s.busTrip := rfl
@[simp] theorem State.modBudget_roster (s : State) (k : SecIx) (f : SecBudget → SecBudget) : (s.modBudget k f).roster = s.roster := rfl
@[simp] theorem State.modBudget_seen (s : State) (k : SecIx) (f : SecBudget → SecBudget) : (s.modBudget k f).seen = s.seen := rfl
@[simp] theorem State.modBudget_cycleNo (s : State) (k : SecIx) (f : SecBudget → SecBudget) : (s.modBudget k f).cycleNo = s.cycleNo := rfl
@[simp] theorem State.modBudget_cycle (s : State) (k : SecIx) (f : SecBudget → SecBudget) : (s.modBudget k f).cycle = s.cycle := rfl
@[simp] theorem State.modBudget_bgeScans (s : State) (k : SecIx) (f : SecBudget → SecBudget) : (s.modBudget k f).bgeScans = s.bgeScans := rfl
@[simp] theorem State.modBudget_fprScans (s : State) (k : SecIx) (f : SecBudget → SecBudget) : (s.modBudget k f).fprScans = s.fprScans := rfl
@[simp] theorem State.modBudget_fsqScans (s : State) (k : SecIx) (f : SecBudget → SecBudget) : (s.modBudget k f).fsqScans = s.fsqScans := rfl
@[simp] theorem State.modBudget_smp (s : State) (k : SecIx) (f : SecBudget → SecBudget) : (s.modBudget k f).smp = s.smp := rfl
@[simp] theorem State.modBudget_ifl (s : State) (k : SecIx) (f : SecBudget → SecBudget) : (s.modBudget k f).ifl = s.ifl := rfl
@[simp] theorem State.modBudget_alt (s : State) (k : SecIx) (f : SecBudget → SecBudget) : (s.modBudget k f).alt = s.alt := rfl
@[simp] theorem State.modBudget_link (s : State) (k : SecIx) (f : SecBudget → SecBudget) : (s.modBudget k f).link = s.link := rfl
@[simp] theorem State.modBudget_pending (s : State) (k : SecIx) (f : SecBudget → SecBudget) : (s.modBudget k f).pending = s.pending := rfl

/-! ### modQueue -/

@[simp] theorem State.modQueue_now (s : State) (k : SecIx) (f : List QEntry → List QEntry) : (s.modQueue k f).now = s.now := rfl
@[simp] theorem State.modQueue_limits (s : State) (k : SecIx) (f : List QEntry → List QEntry) : (s.modQueue k f).limits = s.limits := rfl
@[simp] theorem State.modQueue_secs (s : State) (k : SecIx) (f : List QEntry → List QEntry) :
    (s.modQueue k f).secs = s.secs.set k { s.secs[k] with queue := f s.secs[k].queue } := rfl
@[simp] theorem State.modQueue_source (s : State) (k : SecIx) (f : List QEntry → List QEntry) : (s.modQueue k f).source = s.source := rfl
@[simp] theorem State.modQueue_waitList (s : State) (k : SecIx) (f : List QEntry → List QEntry) : (s.modQueue k f).waitList = s.waitList := rfl
@[simp] theorem State.modQueue_busTrip (s : State) (k : SecIx) (f : List QEntry → List QEntry) : (s.modQueue k f).busTrip = s.busTrip := rfl
@[simp] theorem State.modQueue_roster (s : State) (k : SecIx) (f : List QEntry → List QEntry) : (s.modQueue k f).roster = s.roster := rfl
@[simp] theorem State.modQueue_seen (s : State) (k : SecIx) (f : List QEntry → List QEntry) : (s.modQueue k f).seen = s.seen := rfl
@[simp] theorem State.modQueue_cycleNo (s : State) (k : SecIx) (f : List QEntry → List QEntry) : (s.modQueue k f).cycleNo = s.cycleNo := rfl
@[simp] theorem State.modQueue_cycle (s : State) (k : SecIx) (f : List QEntry → List QEntry) : (s.modQueue k f).cycle = s.cycle := rfl
@[simp] theorem State.modQueue_bgeScans (s : State) (k : SecIx) (f : List QEntry → List QEntry) : (s.modQueue k f).bgeScans = s.bgeScans := rfl
@[simp] theorem State.modQueue_fprScans (s : State) (k : SecIx) (f : List QEntry → List QEntry) : (s.modQueue k f).fprScans = s.fprScans := rfl
@[simp] theorem State.modQueue_fsqScans (s : State) (k : SecIx) (f : List QEntry → List QEntry) : (s.modQueue k f).fsqScans = s.fsqScans := rfl
@[simp] theorem State.modQueue_smp (s : State) (k : SecIx) (f : List QEntry → List QEntry) : (s.modQueue k f).smp = s.smp := rfl
@[simp] theorem State.modQueue_ifl (s : State) (k : SecIx) (f : List QEntry → List QEntry) : (s.modQueue k f).ifl = s.ifl := rfl
@[simp] theorem State.modQueue_alt (s : State) (k : SecIx) (f : List QEntry → List QEntry) : (s.modQueue k f).alt = s.alt := rfl
@[simp] theorem State.modQueue_link (s : State) (k : SecIx) (f : List QEntry → List QEntry) : (s.modQueue k f).link = s.link := rfl
@[simp] theorem State.modQueue_pending (s : State) (k : SecIx) (f : List QEntry → List QEntry) : (s.modQueue k f).pending = s.pending := rfl

/-! ### setSlot -/

@[simp] theorem State.setSlot_now (s : State) (i : SlotIx) (x : Slot) : (s.setSlot i x).now = s.now := rfl
@[simp] theorem State.setSlot_limits (s : State) (i : SlotIx) (x : Slot) : (s.setSlot i x).limits = s.limits := rfl
@[simp] theorem State.setSlot_secs (s : State) (i : SlotIx) (x : Slot) : (s.setSlot i x).secs = s.secs := rfl
@[simp] theorem State.setSlot_source (s : State) (i : SlotIx) (x : Slot) : (s.setSlot i x).source = s.source := rfl
@[simp] theorem State.setSlot_waitList (s : State) (i : SlotIx) (x : Slot) : (s.setSlot i x).waitList = s.waitList := rfl
@[simp] theorem State.setSlot_busTrip (s : State) (i : SlotIx) (x : Slot) : (s.setSlot i x).busTrip = s.busTrip := rfl
@[simp] theorem State.setSlot_roster (s : State) (i : SlotIx) (x : Slot) :
    (s.setSlot i x).roster = s.roster.set i x := rfl
@[simp] theorem State.setSlot_seen (s : State) (i : SlotIx) (x : Slot) : (s.setSlot i x).seen = s.seen := rfl
@[simp] theorem State.setSlot_cycleNo (s : State) (i : SlotIx) (x : Slot) : (s.setSlot i x).cycleNo = s.cycleNo := rfl
@[simp] theorem State.setSlot_cycle (s : State) (i : SlotIx) (x : Slot) : (s.setSlot i x).cycle = s.cycle := rfl
@[simp] theorem State.setSlot_bgeScans (s : State) (i : SlotIx) (x : Slot) : (s.setSlot i x).bgeScans = s.bgeScans := rfl
@[simp] theorem State.setSlot_fprScans (s : State) (i : SlotIx) (x : Slot) : (s.setSlot i x).fprScans = s.fprScans := rfl
@[simp] theorem State.setSlot_fsqScans (s : State) (i : SlotIx) (x : Slot) : (s.setSlot i x).fsqScans = s.fsqScans := rfl
@[simp] theorem State.setSlot_smp (s : State) (i : SlotIx) (x : Slot) : (s.setSlot i x).smp = s.smp := rfl
@[simp] theorem State.setSlot_ifl (s : State) (i : SlotIx) (x : Slot) : (s.setSlot i x).ifl = s.ifl := rfl
@[simp] theorem State.setSlot_alt (s : State) (i : SlotIx) (x : Slot) : (s.setSlot i x).alt = s.alt := rfl
@[simp] theorem State.setSlot_link (s : State) (i : SlotIx) (x : Slot) : (s.setSlot i x).link = s.link := rfl
@[simp] theorem State.setSlot_pending (s : State) (i : SlotIx) (x : Slot) : (s.setSlot i x).pending = s.pending := rfl

/-! ### queueNotice -/

@[simp] theorem State.queueNotice_now (s : State) (n : Notice) : (s.queueNotice n).now = s.now := rfl
@[simp] theorem State.queueNotice_limits (s : State) (n : Notice) : (s.queueNotice n).limits = s.limits := rfl
@[simp] theorem State.queueNotice_secs (s : State) (n : Notice) : (s.queueNotice n).secs = s.secs := rfl
@[simp] theorem State.queueNotice_source (s : State) (n : Notice) : (s.queueNotice n).source = s.source := rfl
@[simp] theorem State.queueNotice_waitList (s : State) (n : Notice) : (s.queueNotice n).waitList = s.waitList := rfl
@[simp] theorem State.queueNotice_busTrip (s : State) (n : Notice) : (s.queueNotice n).busTrip = s.busTrip := rfl
@[simp] theorem State.queueNotice_roster (s : State) (n : Notice) : (s.queueNotice n).roster = s.roster := rfl
@[simp] theorem State.queueNotice_seen (s : State) (n : Notice) : (s.queueNotice n).seen = s.seen := rfl
@[simp] theorem State.queueNotice_cycleNo (s : State) (n : Notice) : (s.queueNotice n).cycleNo = s.cycleNo := rfl
@[simp] theorem State.queueNotice_cycle (s : State) (n : Notice) : (s.queueNotice n).cycle = s.cycle := rfl
@[simp] theorem State.queueNotice_bgeScans (s : State) (n : Notice) : (s.queueNotice n).bgeScans = s.bgeScans := rfl
@[simp] theorem State.queueNotice_fprScans (s : State) (n : Notice) : (s.queueNotice n).fprScans = s.fprScans := rfl
@[simp] theorem State.queueNotice_fsqScans (s : State) (n : Notice) : (s.queueNotice n).fsqScans = s.fsqScans := rfl
@[simp] theorem State.queueNotice_smp (s : State) (n : Notice) : (s.queueNotice n).smp = s.smp := rfl
@[simp] theorem State.queueNotice_ifl (s : State) (n : Notice) : (s.queueNotice n).ifl = s.ifl := rfl
@[simp] theorem State.queueNotice_alt (s : State) (n : Notice) : (s.queueNotice n).alt = s.alt := rfl
@[simp] theorem State.queueNotice_link (s : State) (n : Notice) :
    (s.queueNotice n).link = { s.link with notices := enqueue n s.link.notices } := rfl
@[simp] theorem State.queueNotice_pending (s : State) (n : Notice) : (s.queueNotice n).pending = s.pending := rfl

/-! ### queueSection -/

@[simp] theorem State.queueSection_now (s : State) (k : SecIx) : (s.queueSection k).now = s.now := rfl
@[simp] theorem State.queueSection_limits (s : State) (k : SecIx) : (s.queueSection k).limits = s.limits := rfl
@[simp] theorem State.queueSection_secs (s : State) (k : SecIx) : (s.queueSection k).secs = s.secs := rfl
@[simp] theorem State.queueSection_source (s : State) (k : SecIx) : (s.queueSection k).source = s.source := rfl
@[simp] theorem State.queueSection_waitList (s : State) (k : SecIx) : (s.queueSection k).waitList = s.waitList := rfl
@[simp] theorem State.queueSection_busTrip (s : State) (k : SecIx) : (s.queueSection k).busTrip = s.busTrip := rfl
@[simp] theorem State.queueSection_roster (s : State) (k : SecIx) : (s.queueSection k).roster = s.roster := rfl
@[simp] theorem State.queueSection_seen (s : State) (k : SecIx) : (s.queueSection k).seen = s.seen := rfl
@[simp] theorem State.queueSection_cycleNo (s : State) (k : SecIx) : (s.queueSection k).cycleNo = s.cycleNo := rfl
@[simp] theorem State.queueSection_cycle (s : State) (k : SecIx) : (s.queueSection k).cycle = s.cycle := rfl
@[simp] theorem State.queueSection_bgeScans (s : State) (k : SecIx) : (s.queueSection k).bgeScans = s.bgeScans := rfl
@[simp] theorem State.queueSection_fprScans (s : State) (k : SecIx) : (s.queueSection k).fprScans = s.fprScans := rfl
@[simp] theorem State.queueSection_fsqScans (s : State) (k : SecIx) : (s.queueSection k).fsqScans = s.fsqScans := rfl
@[simp] theorem State.queueSection_smp (s : State) (k : SecIx) : (s.queueSection k).smp = s.smp := rfl
@[simp] theorem State.queueSection_ifl (s : State) (k : SecIx) : (s.queueSection k).ifl = s.ifl := rfl
@[simp] theorem State.queueSection_alt (s : State) (k : SecIx) : (s.queueSection k).alt = s.alt := rfl
@[simp] theorem State.queueSection_pending (s : State) (k : SecIx) : (s.queueSection k).pending = s.pending := rfl

/-! ### raiseAlert -/

@[simp] theorem State.raiseAlert_now (s : State) (kind : AlertKind) (k : Option SecIx) (tag : Option Nat) : (s.raiseAlert kind k tag).now = s.now := rfl
@[simp] theorem State.raiseAlert_limits (s : State) (kind : AlertKind) (k : Option SecIx) (tag : Option Nat) : (s.raiseAlert kind k tag).limits = s.limits := rfl
@[simp] theorem State.raiseAlert_secs (s : State) (kind : AlertKind) (k : Option SecIx) (tag : Option Nat) : (s.raiseAlert kind k tag).secs = s.secs := rfl
@[simp] theorem State.raiseAlert_source (s : State) (kind : AlertKind) (k : Option SecIx) (tag : Option Nat) : (s.raiseAlert kind k tag).source = s.source := rfl
@[simp] theorem State.raiseAlert_waitList (s : State) (kind : AlertKind) (k : Option SecIx) (tag : Option Nat) : (s.raiseAlert kind k tag).waitList = s.waitList := rfl
@[simp] theorem State.raiseAlert_busTrip (s : State) (kind : AlertKind) (k : Option SecIx) (tag : Option Nat) : (s.raiseAlert kind k tag).busTrip = s.busTrip := rfl
@[simp] theorem State.raiseAlert_roster (s : State) (kind : AlertKind) (k : Option SecIx) (tag : Option Nat) : (s.raiseAlert kind k tag).roster = s.roster := rfl
@[simp] theorem State.raiseAlert_seen (s : State) (kind : AlertKind) (k : Option SecIx) (tag : Option Nat) : (s.raiseAlert kind k tag).seen = s.seen := rfl
@[simp] theorem State.raiseAlert_cycleNo (s : State) (kind : AlertKind) (k : Option SecIx) (tag : Option Nat) : (s.raiseAlert kind k tag).cycleNo = s.cycleNo := rfl
@[simp] theorem State.raiseAlert_cycle (s : State) (kind : AlertKind) (k : Option SecIx) (tag : Option Nat) : (s.raiseAlert kind k tag).cycle = s.cycle := rfl
@[simp] theorem State.raiseAlert_bgeScans (s : State) (kind : AlertKind) (k : Option SecIx) (tag : Option Nat) : (s.raiseAlert kind k tag).bgeScans = s.bgeScans := rfl
@[simp] theorem State.raiseAlert_fprScans (s : State) (kind : AlertKind) (k : Option SecIx) (tag : Option Nat) : (s.raiseAlert kind k tag).fprScans = s.fprScans := rfl
@[simp] theorem State.raiseAlert_fsqScans (s : State) (kind : AlertKind) (k : Option SecIx) (tag : Option Nat) : (s.raiseAlert kind k tag).fsqScans = s.fsqScans := rfl
@[simp] theorem State.raiseAlert_smp (s : State) (kind : AlertKind) (k : Option SecIx) (tag : Option Nat) : (s.raiseAlert kind k tag).smp = s.smp := rfl
@[simp] theorem State.raiseAlert_ifl (s : State) (kind : AlertKind) (k : Option SecIx) (tag : Option Nat) : (s.raiseAlert kind k tag).ifl = s.ifl := rfl
@[simp] theorem State.raiseAlert_alt (s : State) (kind : AlertKind) (k : Option SecIx) (tag : Option Nat) :
    (s.raiseAlert kind k tag).alt = s.alt.raise kind k tag s.cycleNo := rfl
@[simp] theorem State.raiseAlert_link (s : State) (kind : AlertKind) (k : Option SecIx) (tag : Option Nat) : (s.raiseAlert kind k tag).link = s.link := rfl
@[simp] theorem State.raiseAlert_pending (s : State) (kind : AlertKind) (k : Option SecIx) (tag : Option Nat) : (s.raiseAlert kind k tag).pending = s.pending := rfl

/-! ### forget -/

@[simp] theorem State.forget_now (s : State) (i : SlotIx) : (s.forget i).now = s.now := rfl
@[simp] theorem State.forget_limits (s : State) (i : SlotIx) : (s.forget i).limits = s.limits := rfl
@[simp] theorem State.forget_secs (s : State) (i : SlotIx) : (s.forget i).secs = s.secs := rfl
@[simp] theorem State.forget_source (s : State) (i : SlotIx) : (s.forget i).source = s.source := rfl
@[simp] theorem State.forget_waitList (s : State) (i : SlotIx) : (s.forget i).waitList = s.waitList := rfl
@[simp] theorem State.forget_busTrip (s : State) (i : SlotIx) : (s.forget i).busTrip = s.busTrip := rfl
@[simp] theorem State.forget_roster (s : State) (i : SlotIx) : (s.forget i).roster = s.roster := rfl
@[simp] theorem State.forget_seen (s : State) (i : SlotIx) : (s.forget i).seen = s.seen := rfl
@[simp] theorem State.forget_cycleNo (s : State) (i : SlotIx) : (s.forget i).cycleNo = s.cycleNo := rfl
@[simp] theorem State.forget_bgeScans (s : State) (i : SlotIx) : (s.forget i).bgeScans = s.bgeScans := rfl
@[simp] theorem State.forget_fprScans (s : State) (i : SlotIx) : (s.forget i).fprScans = s.fprScans := rfl
@[simp] theorem State.forget_fsqScans (s : State) (i : SlotIx) : (s.forget i).fsqScans = s.fsqScans := rfl
@[simp] theorem State.forget_smp (s : State) (i : SlotIx) : (s.forget i).smp = s.smp := rfl
@[simp] theorem State.forget_ifl (s : State) (i : SlotIx) : (s.forget i).ifl = s.ifl := rfl
@[simp] theorem State.forget_alt (s : State) (i : SlotIx) : (s.forget i).alt = s.alt := rfl
@[simp] theorem State.forget_link (s : State) (i : SlotIx) : (s.forget i).link = s.link := rfl
@[simp] theorem State.forget_pending (s : State) (i : SlotIx) : (s.forget i).pending = s.pending := rfl

/-! ### note -/

@[simp] theorem State.note_now (s : State) (i : SlotIx) (f : TruckIn → TruckIn) : (s.note i f).now = s.now := rfl
@[simp] theorem State.note_limits (s : State) (i : SlotIx) (f : TruckIn → TruckIn) : (s.note i f).limits = s.limits := rfl
@[simp] theorem State.note_secs (s : State) (i : SlotIx) (f : TruckIn → TruckIn) : (s.note i f).secs = s.secs := rfl
@[simp] theorem State.note_source (s : State) (i : SlotIx) (f : TruckIn → TruckIn) : (s.note i f).source = s.source := rfl
@[simp] theorem State.note_waitList (s : State) (i : SlotIx) (f : TruckIn → TruckIn) : (s.note i f).waitList = s.waitList := rfl
@[simp] theorem State.note_busTrip (s : State) (i : SlotIx) (f : TruckIn → TruckIn) : (s.note i f).busTrip = s.busTrip := rfl
@[simp] theorem State.note_roster (s : State) (i : SlotIx) (f : TruckIn → TruckIn) : (s.note i f).roster = s.roster := rfl
@[simp] theorem State.note_seen (s : State) (i : SlotIx) (f : TruckIn → TruckIn) : (s.note i f).seen = s.seen := rfl
@[simp] theorem State.note_cycleNo (s : State) (i : SlotIx) (f : TruckIn → TruckIn) : (s.note i f).cycleNo = s.cycleNo := rfl
@[simp] theorem State.note_bgeScans (s : State) (i : SlotIx) (f : TruckIn → TruckIn) : (s.note i f).bgeScans = s.bgeScans := rfl
@[simp] theorem State.note_fprScans (s : State) (i : SlotIx) (f : TruckIn → TruckIn) : (s.note i f).fprScans = s.fprScans := rfl
@[simp] theorem State.note_fsqScans (s : State) (i : SlotIx) (f : TruckIn → TruckIn) : (s.note i f).fsqScans = s.fsqScans := rfl
@[simp] theorem State.note_smp (s : State) (i : SlotIx) (f : TruckIn → TruckIn) : (s.note i f).smp = s.smp := rfl
@[simp] theorem State.note_ifl (s : State) (i : SlotIx) (f : TruckIn → TruckIn) : (s.note i f).ifl = s.ifl := rfl
@[simp] theorem State.note_alt (s : State) (i : SlotIx) (f : TruckIn → TruckIn) : (s.note i f).alt = s.alt := rfl
@[simp] theorem State.note_link (s : State) (i : SlotIx) (f : TruckIn → TruckIn) : (s.note i f).link = s.link := rfl
@[simp] theorem State.note_pending (s : State) (i : SlotIx) (f : TruckIn → TruckIn) : (s.note i f).pending = s.pending := rfl

/-! ### hunt -/

@[simp] theorem State.hunt_now (s : State) : (s.hunt).now = s.now := rfl
@[simp] theorem State.hunt_limits (s : State) : (s.hunt).limits = s.limits := rfl
@[simp] theorem State.hunt_secs (s : State) : (s.hunt).secs = s.secs := rfl
@[simp] theorem State.hunt_source (s : State) : (s.hunt).source = s.source := rfl
@[simp] theorem State.hunt_waitList (s : State) : (s.hunt).waitList = s.waitList := rfl
@[simp] theorem State.hunt_busTrip (s : State) : (s.hunt).busTrip = s.busTrip := rfl
@[simp] theorem State.hunt_roster (s : State) : (s.hunt).roster = s.roster := rfl
@[simp] theorem State.hunt_seen (s : State) : (s.hunt).seen = s.seen := rfl
@[simp] theorem State.hunt_cycleNo (s : State) : (s.hunt).cycleNo = s.cycleNo := rfl
@[simp] theorem State.hunt_cycle (s : State) : (s.hunt).cycle = s.cycle := rfl
@[simp] theorem State.hunt_bgeScans (s : State) : (s.hunt).bgeScans = s.bgeScans := rfl
@[simp] theorem State.hunt_fprScans (s : State) : (s.hunt).fprScans = s.fprScans := rfl
@[simp] theorem State.hunt_fsqScans (s : State) : (s.hunt).fsqScans = s.fsqScans := rfl
@[simp] theorem State.hunt_smp (s : State) : (s.hunt).smp = s.smp := rfl
@[simp] theorem State.hunt_ifl (s : State) : (s.hunt).ifl = s.ifl := rfl
@[simp] theorem State.hunt_alt (s : State) : (s.hunt).alt = s.alt := rfl
@[simp] theorem State.hunt_link (s : State) :
    (s.hunt).link = { s.link with rx := .hunting } := rfl
@[simp] theorem State.hunt_pending (s : State) : (s.hunt).pending = s.pending := rfl

/-! ### store -/

@[simp] theorem State.store_now (s : State) (i : Instr) (tag kind : Byte) (d : ReplyData) : (s.store i tag kind d).now = s.now := rfl
@[simp] theorem State.store_limits (s : State) (i : Instr) (tag kind : Byte) (d : ReplyData) : (s.store i tag kind d).limits = s.limits := rfl
@[simp] theorem State.store_secs (s : State) (i : Instr) (tag kind : Byte) (d : ReplyData) : (s.store i tag kind d).secs = s.secs := rfl
@[simp] theorem State.store_source (s : State) (i : Instr) (tag kind : Byte) (d : ReplyData) : (s.store i tag kind d).source = s.source := rfl
@[simp] theorem State.store_waitList (s : State) (i : Instr) (tag kind : Byte) (d : ReplyData) : (s.store i tag kind d).waitList = s.waitList := rfl
@[simp] theorem State.store_busTrip (s : State) (i : Instr) (tag kind : Byte) (d : ReplyData) : (s.store i tag kind d).busTrip = s.busTrip := rfl
@[simp] theorem State.store_roster (s : State) (i : Instr) (tag kind : Byte) (d : ReplyData) : (s.store i tag kind d).roster = s.roster := rfl
@[simp] theorem State.store_seen (s : State) (i : Instr) (tag kind : Byte) (d : ReplyData) : (s.store i tag kind d).seen = s.seen := rfl
@[simp] theorem State.store_cycleNo (s : State) (i : Instr) (tag kind : Byte) (d : ReplyData) : (s.store i tag kind d).cycleNo = s.cycleNo := rfl
@[simp] theorem State.store_cycle (s : State) (i : Instr) (tag kind : Byte) (d : ReplyData) : (s.store i tag kind d).cycle = s.cycle := rfl
@[simp] theorem State.store_bgeScans (s : State) (i : Instr) (tag kind : Byte) (d : ReplyData) : (s.store i tag kind d).bgeScans = s.bgeScans := rfl
@[simp] theorem State.store_fprScans (s : State) (i : Instr) (tag kind : Byte) (d : ReplyData) : (s.store i tag kind d).fprScans = s.fprScans := rfl
@[simp] theorem State.store_fsqScans (s : State) (i : Instr) (tag kind : Byte) (d : ReplyData) : (s.store i tag kind d).fsqScans = s.fsqScans := rfl
@[simp] theorem State.store_smp (s : State) (i : Instr) (tag kind : Byte) (d : ReplyData) : (s.store i tag kind d).smp = s.smp := rfl
@[simp] theorem State.store_ifl (s : State) (i : Instr) (tag kind : Byte) (d : ReplyData) : (s.store i tag kind d).ifl = s.ifl := rfl
@[simp] theorem State.store_alt (s : State) (i : Instr) (tag kind : Byte) (d : ReplyData) : (s.store i tag kind d).alt = s.alt := rfl
@[simp] theorem State.store_link (s : State) (i : Instr) (tag kind : Byte) (d : ReplyData) :
    (s.store i tag kind d).link = { s.link with inbound := s.link.inbound ++ [⟨i, ⟨tag, kind, d⟩⟩] } := rfl
@[simp] theorem State.store_pending (s : State) (i : Instr) (tag kind : Byte) (d : ReplyData) : (s.store i tag kind d).pending = s.pending := rfl

/-! ### trigger -/

@[simp] theorem State.trigger_now (s : State) : (s.trigger).now = s.now := rfl
@[simp] theorem State.trigger_limits (s : State) : (s.trigger).limits = s.limits := rfl
@[simp] theorem State.trigger_secs (s : State) : (s.trigger).secs = s.secs := rfl
@[simp] theorem State.trigger_source (s : State) : (s.trigger).source = s.source := rfl
@[simp] theorem State.trigger_waitList (s : State) : (s.trigger).waitList = s.waitList := rfl
@[simp] theorem State.trigger_busTrip (s : State) : (s.trigger).busTrip = s.busTrip := rfl
@[simp] theorem State.trigger_roster (s : State) : (s.trigger).roster = s.roster := rfl
@[simp] theorem State.trigger_seen (s : State) : (s.trigger).seen = s.seen := rfl
@[simp] theorem State.trigger_cycleNo (s : State) : (s.trigger).cycleNo = s.cycleNo := rfl
@[simp] theorem State.trigger_cycle (s : State) : (s.trigger).cycle = s.cycle := rfl
@[simp] theorem State.trigger_bgeScans (s : State) : (s.trigger).bgeScans = s.bgeScans := rfl
@[simp] theorem State.trigger_fprScans (s : State) : (s.trigger).fprScans = s.fprScans := rfl
@[simp] theorem State.trigger_fsqScans (s : State) : (s.trigger).fsqScans = s.fsqScans := rfl
@[simp] theorem State.trigger_smp (s : State) :
    (s.trigger).smp = { s.smp with inFlight := some s.now } := rfl
@[simp] theorem State.trigger_ifl (s : State) : (s.trigger).ifl = s.ifl := rfl
@[simp] theorem State.trigger_alt (s : State) : (s.trigger).alt = s.alt := rfl
@[simp] theorem State.trigger_link (s : State) : (s.trigger).link = s.link := rfl
@[simp] theorem State.trigger_pending (s : State) : (s.trigger).pending = s.pending := rfl

/-! ### elapse -/

@[simp] theorem State.elapse_now (s : State) (ms : Nat) :
    (s.elapse ms).now = s.now + ms := rfl
@[simp] theorem State.elapse_limits (s : State) (ms : Nat) : (s.elapse ms).limits = s.limits := rfl
@[simp] theorem State.elapse_secs (s : State) (ms : Nat) :
    (s.elapse ms).secs = mapVec (Sec.elapse ms) s.secs := rfl
@[simp] theorem State.elapse_source (s : State) (ms : Nat) : (s.elapse ms).source = s.source := rfl
@[simp] theorem State.elapse_waitList (s : State) (ms : Nat) : (s.elapse ms).waitList = s.waitList := rfl
@[simp] theorem State.elapse_busTrip (s : State) (ms : Nat) : (s.elapse ms).busTrip = s.busTrip := rfl
@[simp] theorem State.elapse_roster (s : State) (ms : Nat) :
    (s.elapse ms).roster = mapVec (Slot.elapse ms) s.roster := rfl
@[simp] theorem State.elapse_seen (s : State) (ms : Nat) : (s.elapse ms).seen = s.seen := rfl
@[simp] theorem State.elapse_cycleNo (s : State) (ms : Nat) : (s.elapse ms).cycleNo = s.cycleNo := rfl
@[simp] theorem State.elapse_cycle (s : State) (ms : Nat) : (s.elapse ms).cycle = s.cycle := rfl
@[simp] theorem State.elapse_bgeScans (s : State) (ms : Nat) : (s.elapse ms).bgeScans = s.bgeScans := rfl
@[simp] theorem State.elapse_fprScans (s : State) (ms : Nat) : (s.elapse ms).fprScans = s.fprScans := rfl
@[simp] theorem State.elapse_fsqScans (s : State) (ms : Nat) : (s.elapse ms).fsqScans = s.fsqScans := rfl
@[simp] theorem State.elapse_smp (s : State) (ms : Nat) :
    (s.elapse ms).smp = { s.smp with timer := left s.smp.timer ms } := rfl
@[simp] theorem State.elapse_ifl (s : State) (ms : Nat) :
    (s.elapse ms).ifl = { s.ifl with timer := s.ifl.timer - ms } := rfl
@[simp] theorem State.elapse_alt (s : State) (ms : Nat) : (s.elapse ms).alt = s.alt := rfl
@[simp] theorem State.elapse_link (s : State) (ms : Nat) : (s.elapse ms).link = s.link := rfl
@[simp] theorem State.elapse_pending (s : State) (ms : Nat) : (s.elapse ms).pending = s.pending := rfl

/-! ### enterPhase -/

@[simp] theorem State.enterPhase_now (s : State) (k : SecIx) (p : Phase) (c : Cause) : (s.enterPhase k p c).now = s.now := rfl
@[simp] theorem State.enterPhase_limits (s : State) (k : SecIx) (p : Phase) (c : Cause) : (s.enterPhase k p c).limits = s.limits := rfl
@[simp] theorem State.enterPhase_source (s : State) (k : SecIx) (p : Phase) (c : Cause) : (s.enterPhase k p c).source = s.source := rfl
@[simp] theorem State.enterPhase_waitList (s : State) (k : SecIx) (p : Phase) (c : Cause) : (s.enterPhase k p c).waitList = s.waitList := rfl
@[simp] theorem State.enterPhase_busTrip (s : State) (k : SecIx) (p : Phase) (c : Cause) : (s.enterPhase k p c).busTrip = s.busTrip := rfl
@[simp] theorem State.enterPhase_roster (s : State) (k : SecIx) (p : Phase) (c : Cause) : (s.enterPhase k p c).roster = s.roster := rfl
@[simp] theorem State.enterPhase_seen (s : State) (k : SecIx) (p : Phase) (c : Cause) : (s.enterPhase k p c).seen = s.seen := rfl
@[simp] theorem State.enterPhase_cycleNo (s : State) (k : SecIx) (p : Phase) (c : Cause) : (s.enterPhase k p c).cycleNo = s.cycleNo := rfl
@[simp] theorem State.enterPhase_cycle (s : State) (k : SecIx) (p : Phase) (c : Cause) : (s.enterPhase k p c).cycle = s.cycle := rfl
@[simp] theorem State.enterPhase_bgeScans (s : State) (k : SecIx) (p : Phase) (c : Cause) : (s.enterPhase k p c).bgeScans = s.bgeScans := rfl
@[simp] theorem State.enterPhase_fprScans (s : State) (k : SecIx) (p : Phase) (c : Cause) : (s.enterPhase k p c).fprScans = s.fprScans := rfl
@[simp] theorem State.enterPhase_fsqScans (s : State) (k : SecIx) (p : Phase) (c : Cause) : (s.enterPhase k p c).fsqScans = s.fsqScans := rfl
@[simp] theorem State.enterPhase_smp (s : State) (k : SecIx) (p : Phase) (c : Cause) : (s.enterPhase k p c).smp = s.smp := rfl
@[simp] theorem State.enterPhase_ifl (s : State) (k : SecIx) (p : Phase) (c : Cause) : (s.enterPhase k p c).ifl = s.ifl := rfl
@[simp] theorem State.enterPhase_alt (s : State) (k : SecIx) (p : Phase) (c : Cause) : (s.enterPhase k p c).alt = s.alt := rfl
@[simp] theorem State.enterPhase_pending (s : State) (k : SecIx) (p : Phase) (c : Cause) : (s.enterPhase k p c).pending = s.pending := rfl

/-! ### dropGapChanges -/

@[simp] theorem State.dropGapChanges_now (s : State) : s.dropGapChanges.now = s.now := rfl
@[simp] theorem State.dropGapChanges_limits (s : State) : s.dropGapChanges.limits = s.limits := rfl
@[simp] theorem State.dropGapChanges_secs (s : State) : s.dropGapChanges.secs = s.secs := rfl
@[simp] theorem State.dropGapChanges_source (s : State) : s.dropGapChanges.source = s.source := rfl
@[simp] theorem State.dropGapChanges_waitList (s : State) : s.dropGapChanges.waitList = s.waitList := rfl
@[simp] theorem State.dropGapChanges_busTrip (s : State) : s.dropGapChanges.busTrip = s.busTrip := rfl
@[simp] theorem State.dropGapChanges_roster (s : State) : s.dropGapChanges.roster = s.roster := rfl
@[simp] theorem State.dropGapChanges_seen (s : State) : s.dropGapChanges.seen = s.seen := rfl
@[simp] theorem State.dropGapChanges_cycleNo (s : State) : s.dropGapChanges.cycleNo = s.cycleNo := rfl
@[simp] theorem State.dropGapChanges_cycle (s : State) : s.dropGapChanges.cycle = s.cycle := rfl
@[simp] theorem State.dropGapChanges_bgeScans (s : State) : s.dropGapChanges.bgeScans = s.bgeScans := rfl
@[simp] theorem State.dropGapChanges_fprScans (s : State) : s.dropGapChanges.fprScans = s.fprScans := rfl
@[simp] theorem State.dropGapChanges_fsqScans (s : State) : s.dropGapChanges.fsqScans = s.fsqScans := rfl
@[simp] theorem State.dropGapChanges_smp (s : State) : s.dropGapChanges.smp = s.smp := rfl
@[simp] theorem State.dropGapChanges_alt (s : State) : s.dropGapChanges.alt = s.alt := rfl
@[simp] theorem State.dropGapChanges_link (s : State) : s.dropGapChanges.link = s.link := rfl
@[simp] theorem State.dropGapChanges_pending (s : State) : s.dropGapChanges.pending = s.pending := rfl

/-- The changes left are those of the breakers, of STOP, and of the gaps that exist (R3). -/
theorem State.mem_dropGapChanges (s : State) (c : Change) :
    c ∈ s.dropGapChanges.ifl.handed ↔ c ∈ s.ifl.handed ∧ ∀ g v, c = .gap g v → s.gapExists g = true := by
  cases c <;> simp [State.dropGapChanges]

end Sys2Proof.Machine
end

