-- ==== Sys2Proof/Laws/Ops.lean ====
section
/-! SUPPORT. One law for each shared operation of Machine/Ops.lean and Machine/Operands.lean: what it can do. -/

namespace Sys2Proof.Machine

/-! ### Tables and folds -/

@[simp] theorem mapVec_get {α β : Type} {n : Nat} (f : α → β) (v : Vector α n) (i : Nat) (h : i < n) :
    (mapVec f v)[i] = f v[i] := by simp [mapVec]

/-- What holds of a state and is kept by every single step of a fold over the slots holds after the fold. -/
theorem State.eachSlot_keeps {P : State → Prop} {f : SlotIx → State → State}
    (hf : ∀ i s, P s → P (f i s)) {s : State} (h : P s) : P (s.eachSlot f) := by
  unfold State.eachSlot
  generalize allSlots = l
  induction l generalizing s with
  | nil => exact h
  | cons a l ih => exact ih (hf a s h)

/-- What holds of a state and is kept by every single step of a fold over the sections holds after the fold. -/
theorem State.eachSec_keeps {P : State → Prop} {f : SecIx → State → State}
    (hf : ∀ k s, P s → P (f k s)) {s : State} (h : P s) : P (s.eachSec f) := by
  unfold State.eachSec
  generalize allSecs = l
  induction l generalizing s with
  | nil => exact h
  | cons a l ih => exact ih (hf a s h)

/-- A view of the state that no single step changes is not changed by a fold over the slots. -/
theorem State.eachSlot_view {α : Type} (π : State → α) {f : SlotIx → State → State}
    (hf : ∀ i s, π (f i s) = π s) (s : State) : π (s.eachSlot f) = π s :=
  State.eachSlot_keeps (P := fun x => π x = π s) (fun i x h => (hf i x).trans h) rfl

/-- A view of the state that no single step changes is not changed by a fold over the sections. -/
theorem State.eachSec_view {α : Type} (π : State → α) {f : SecIx → State → State}
    (hf : ∀ k s, π (f k s) = π s) (s : State) : π (s.eachSec f) = π s :=
  State.eachSec_keeps (P := fun x => π x = π s) (fun k x h => (hf k x).trans h) rfl

/-! ### Sections -/

@[simp] theorem State.modSec_sec_self (s : State) (k : SecIx) (f : Sec → Sec) :
    (s.modSec k f).secs[k] = f s.secs[k] := by simp [State.modSec]

theorem State.modSec_sec_ne (s : State) {k l : SecIx} (f : Sec → Sec) (h : l ≠ k) :
    (s.modSec k f).secs[l] = s.secs[l] := by
  have : (k : Nat) ≠ (l : Nat) := fun e => h (Fin.ext e.symm)
  simp [State.modSec, this]

/-- Every section after an update of one. -/
theorem State.modSec_sec (s : State) (k l : SecIx) (f : Sec → Sec) :
    (s.modSec k f).secs[l] = if l = k then f s.secs[k] else s.secs[l] := by
  by_cases h : l = k
  · subst h; simp
  · rw [if_neg h, s.modSec_sec_ne f h]

/-! ### Slots and trucks -/

@[simp] theorem State.setSlot_roster_self (s : State) (i : SlotIx) (x : Slot) :
    (s.setSlot i x).roster[i] = x := by simp [State.setSlot]

theorem State.setSlot_roster_ne (s : State) {i j : SlotIx} (x : Slot) (h : j ≠ i) :
    (s.setSlot i x).roster[j] = s.roster[j] := by
  have : (i : Nat) ≠ (j : Nat) := fun e => h (Fin.ext e.symm)
  simp [State.setSlot, this]

/-- A truck is read from its slot alone. -/
theorem State.truck?_congr {s t : State} {i : SlotIx} (h : t.roster[i] = s.roster[i]) : t.truck? i = s.truck? i := by
  unfold State.truck?; rw [h]

theorem State.truck?_eq_some {s : State} {i : SlotIx} {t : Truck} :
    s.truck? i = some t ↔ s.roster[i] = .occupied t := by
  unfold State.truck?
  split <;> simp_all

@[simp] theorem State.setSlot_truck_self (s : State) (i : SlotIx) (t : Truck) :
    (s.setSlot i (.occupied t)).truck? i = some t := by simp [State.truck?_eq_some]

theorem State.setSlot_truck_ne (s : State) {i j : SlotIx} (x : Slot) (h : j ≠ i) :
    (s.setSlot i x).truck? j = s.truck? j := State.truck?_congr (s.setSlot_roster_ne x h)

/-- The record in a slot after an update of it. -/
@[simp] theorem State.modTruck_truck_self (s : State) (i : SlotIx) (f : Truck → Truck) :
    (s.modTruck i f).truck? i = (s.truck? i).map f := by
  unfold State.modTruck
  split
  · next h => simp [h]
  · next h => simp [h]

/-- The other slots after an update of one. -/
theorem State.modTruck_roster_ne (s : State) {i j : SlotIx} (f : Truck → Truck) (h : j ≠ i) :
    (s.modTruck i f).roster[j] = s.roster[j] := by
  unfold State.modTruck
  split
  · exact s.setSlot_roster_ne _ h
  · rfl

theorem State.modTruck_truck_ne (s : State) {i j : SlotIx} (f : Truck → Truck) (h : j ≠ i) :
    (s.modTruck i f).truck? j = s.truck? j := State.truck?_congr (s.modTruck_roster_ne f h)

/-- An update of a record touches the roster and nothing else. -/
theorem State.modTruck_spec (s : State) (i : SlotIx) (f : Truck → Truck) :
    ∃ r, s.modTruck i f = { s with roster := r } := by
  unfold State.modTruck
  split
  · exact ⟨_, rfl⟩
  · exact ⟨s.roster, rfl⟩

/-- A grant set between cycles: nothing where the slot is empty or holds that grant, else the record's grant is replaced
and the GRANT notice queued. -/
theorem State.setGrant_spec (s : State) (i : SlotIx) (g : Nat) :
    (s.setGrant i g = s ∧ ∀ t, s.truck? i = some t → t.grant = g) ∨
    ∃ t, s.truck? i = some t ∧ t.grant ≠ g ∧
      s.setGrant i g =
        (s.setSlot i (.occupied { t with grant := g })).queueNotice (.grant i t.tag g t.dir s.cycleNo) := by
  unfold State.setGrant
  split
  · next t ht =>
    split
    · next h => exact .inl ⟨rfl, fun u hu => by rw [ht] at hu; cases hu; exact h⟩
    · next h =>
      refine .inr ⟨t, ht, h, ?_⟩
      have e : s.putGrant i g = s.setSlot i (.occupied { t with grant := g }) := by
        simp [State.putGrant, State.modTruck, ht]
      simp [State.queueGrant, e]
  · next h => exact .inl ⟨rfl, fun t ht => by simp_all⟩

/-- The record in a slot after its grant is set. -/
@[simp] theorem State.setGrant_truck_self (s : State) (i : SlotIx) (g : Nat) :
    (s.setGrant i g).truck? i = (s.truck? i).map fun t => { t with grant := g } := by
  rcases s.setGrant_spec i g with ⟨e, h⟩ | ⟨t, ht, _, e⟩
  · rw [e]
    cases hs : s.truck? i with
    | none => rfl
    | some t => have := h t hs; subst this; rfl
  · have : ∀ (u : State) n, (u.queueNotice n).truck? i = u.truck? i := fun u n => State.truck?_congr rfl
    rw [e, this, ht]; simp

/-- The other slots after a grant is set. -/
theorem State.setGrant_roster_ne (s : State) {i j : SlotIx} (g : Nat) (h : j ≠ i) :
    (s.setGrant i g).roster[j] = s.roster[j] := by
  rcases s.setGrant_spec i g with ⟨e, _⟩ | ⟨t, _, _, e⟩ <;> rw [e]
  exact s.setSlot_roster_ne _ h

/-! ### Notices -/

/-- A notice that replaces one leaves the queue's length as it was; any other lengthens it by one (R199). -/
theorem enqueue_length (n : Notice) (q : List Notice) :
    (enqueue n q).length = if q.any n.sameKey then q.length else q.length + 1 := by
  unfold enqueue; split <;> simp [*]

/-- Every notice of the queue after a queueing is the new one or was there before (R199). -/
theorem mem_enqueue {n m : Notice} {q : List Notice} (h : m ∈ enqueue n q) : m = n ∨ m ∈ q := by
  unfold enqueue at h
  split at h
  · obtain ⟨a, ha, e⟩ := List.mem_map.1 h
    split at e
    · exact .inl e.symm
    · exact .inr (e ▸ ha)
  · rcases List.mem_append.1 h with h | h
    · exact .inr h
    · exact .inl (List.mem_singleton.1 h)

/-- The queued notice waits afterwards (R199). -/
theorem self_mem_enqueue (n : Notice) (q : List Notice) : n ∈ enqueue n q := by
  unfold enqueue
  split
  · next h =>
    obtain ⟨a, ha, e⟩ := List.any_eq_true.1 h
    exact List.mem_map.2 ⟨a, ha, by simp [e]⟩
  · simp

/-- What an idle transmitter chooses (R198). -/
theorem State.kick_spec (s : State) :
    (s.link.tx ≠ .idle ∧ s.kick = s) ∨
    (s.link.tx = .idle ∧ s.link.inbound ≠ [] ∧ s.kick = { s with link := { s.link with tx := .reply } }) ∨
    (s.link.tx = .idle ∧ s.link.inbound = [] ∧
      ((∃ n q, s.link.notices = n :: q ∧
          s.kick = { s with link := { s.link with tx := .notice n false, notices := q } }) ∨
        (s.link.notices = [] ∧ s.kick = s))) := by
  unfold State.kick
  split
  · next h =>
    split
    · next e => exact .inr (.inl ⟨h, by simp [e], rfl⟩)
    · next n q e e' => exact .inr (.inr ⟨h, e, .inl ⟨n, q, e', rfl⟩⟩)
    · next e e' => exact .inr (.inr ⟨h, e, .inr ⟨e', rfl⟩⟩)
  · next h => exact .inl ⟨by simp [h], rfl⟩
  · next h => exact .inl ⟨by simp [h], rfl⟩

/-- Starting a frame touches the link alone: its transmitter and the notice queue. -/
theorem State.kick_link (s : State) :
    ∃ x q, s.kick = { s with link := { s.link with tx := x, notices := q } } := by
  rcases s.kick_spec with ⟨_, e⟩ | ⟨_, _, e⟩ | ⟨_, _, ⟨n, q, _, e⟩ | ⟨_, e⟩⟩
  · exact ⟨s.link.tx, s.link.notices, e⟩
  · exact ⟨_, s.link.notices, e⟩
  · exact ⟨_, _, e⟩
  · exact ⟨s.link.tx, s.link.notices, e⟩

/-! ### Alerts -/

/-- Raising an alert (R183): a record in attendance for the pair takes the recurrence; a pair pending changes nothing; an
absent pair makes a pending record. -/
theorem AlertList.raise_spec (l : AlertList) (kind : AlertKind) (k : Option SecIx) (tag : Option Nat) (cycle : Nat) :
    (∃ a, l.attended = some a ∧ a.isFor kind k = true ∧
      l.raise kind k tag cycle =
        { l with attended := some { a with recur := some (cycle, if kind.tagged then tag else none) } }) ∨
    ((∀ a, l.attended = some a → a.isFor kind k = false) ∧ (l.pending.any fun p => p.isFor kind k) = true ∧
      l.raise kind k tag cycle = l) ∨
    ((∀ a, l.attended = some a → a.isFor kind k = false) ∧ (l.pending.any fun p => p.isFor kind k) = false ∧
      l.raise kind k tag cycle =
        { l with pending := l.pending ++ [⟨kind, k, cycle, if kind.tagged then tag else none, none⟩] }) := by
  unfold AlertList.raise
  cases ha : l.attended with
  | none =>
    by_cases hp : (l.pending.any fun p => p.isFor kind k) = true
    · exact .inr (.inl ⟨by simp, hp, by simp [hp]⟩)
    · exact .inr (.inr ⟨by simp, by simpa using hp, by simp [hp]⟩)
  | some a =>
    by_cases hf : a.isFor kind k = true
    · exact .inl ⟨a, rfl, hf, by simp [hf]⟩
    · by_cases hp : (l.pending.any fun p => p.isFor kind k) = true
      · exact .inr (.inl ⟨by intro b hb; cases hb; simpa using hf, hp, by simp [hf, hp]⟩)
      · exact .inr (.inr ⟨by intro b hb; cases hb; simpa using hf, by simpa using hp, by simp [hf, hp]⟩)

/-- A raising leaves the masks as they are (R183). -/
@[simp] theorem AlertList.raise_masks (l : AlertList) (kind : AlertKind) (k : Option SecIx) (tag : Option Nat)
    (cycle : Nat) : (l.raise kind k tag cycle).masks = l.masks := by
  rcases l.raise_spec kind k tag cycle with ⟨_, _, _, e⟩ | ⟨_, _, e⟩ | ⟨_, _, e⟩ <;> rw [e]

/-! ### Time -/

/-- A record that has run out waits at 0; time that does not pass changes no duration. -/
@[simp] theorem left_zero (d : Option Nat) : left d 0 = d := by cases d <;> simp [left]

/-- A section's settings do not change with time. -/
@[simp] theorem Sec.elapse_settings (ms : Nat) (x : Sec) : (x.elapse ms).settings = x.settings := rfl

/-- A section's state does not change with time. -/
@[simp] theorem Phase.elapse_state (ms : Nat) (p : Phase) : (p.elapse ms).state = p.state := by cases p <;> rfl

/-- A truck's contact state does not change with time. -/
@[simp] theorem Contact.elapse_state (ms : Nat) (c : Contact) : (c.elapse ms).state = c.state := by cases c <;> rfl

/-! ### Requests -/

/-- The fate of a request's frame (R192, R193, R195): discarded, answered MALFORMED, or taken by its owner. -/
theorem takeRequest_spec (i : Instr) (h : ReqHdr) (kind : Byte) (len : Nat) (own : State → State × ReplyData)
    (s : State) :
    (¬(h.inFrame = true ∧ s.ready = true) ∧ takeRequest i h kind len own s = done s.hunt) ∨
    ((h.inFrame = true ∧ s.ready = true) ∧ (h.tag = 0 ∨ h.bodyLen ≠ len) ∧
      takeRequest i h kind len own s = done (s.hunt.store i h.tag kind (.reject .malformed 0))) ∨
    ((h.inFrame = true ∧ s.ready = true) ∧ h.tag ≠ 0 ∧ h.bodyLen = len ∧
      takeRequest i h kind len own s = done ((own s.hunt).1.store i h.tag kind (own s.hunt).2)) := by
  unfold takeRequest
  by_cases hr : h.inFrame = true ∧ s.ready = true
  · by_cases hm : h.tag = 0 ∨ h.bodyLen ≠ len
    · exact .inr (.inl ⟨hr, hm, by rw [if_pos hr, if_pos hm]⟩)
    · refine .inr (.inr ⟨hr, fun e => hm (.inl e), by_contra fun e => hm (.inr e), ?_⟩)
      rw [if_pos hr, if_neg hm]
  · exact .inl ⟨hr, by rw [if_neg hr]⟩

/-! ### Filtered changes -/

/-- A change of a gap's sensor is seen exactly under a gap that exists, where it waits among those handed over or the filtered
value is at the other level (R3, R79). -/
theorem State.seesGap_iff (s : State) (g : GapIx) (v : Bool) :
    s.seesGap g v = true ↔ s.gapExists g = true ∧ (Change.gap g v ∈ s.ifl.handed ∨ s.ifl.gaps[g].value ≠ v) := by
  simp [State.seesGap]

/-- A command for a level at which a gap's sensor stands, with no change of it handed over, takes nothing (R3). -/
theorem State.takeChange_gap_idle (s : State) (g : GapIx) (v : Bool) (h : Change.gap g v ∉ s.ifl.handed)
    (e : s.ifl.gaps[g].value = v) : s.takeChange (.gap g v) = s := by
  have p : s.ifl.put (.gap g v) = s.ifl := by
    have w : s.ifl.gaps.set g s.ifl.gaps[g] = s.ifl.gaps := Vector.set_getElem_self ..
    subst e
    exact congrArg (fun x => { s.ifl with gaps := x }) w
  simp [State.takeChange, h, p]

end Sys2Proof.Machine
end

