-- ==== Sys2Proof/Laws/Plant.lean ====
section
/-! SUPPORT. No truck operation touches the plant: limits, feeders, protection, budgets, scans, inputs, masks, and all of the
link but its notices. One law for each operation of the Truck Roster, the Contact Supervisor and the Gap Monitor. -/

namespace Sys2Proof.Machine

/-! ### Plain updates -/

@[simp] theorem State.setSlot_plant (s : State) (i : SlotIx) (x : Slot) : (s.setSlot i x).plant = s.plant := rfl

@[simp] theorem State.queueNotice_plant (s : State) (n : Notice) : (s.queueNotice n).plant = s.plant := rfl

@[simp] theorem State.forget_plant (s : State) (i : SlotIx) : (s.forget i).plant = s.plant := rfl

@[simp] theorem State.note_plant (s : State) (i : SlotIx) (f : TruckIn → TruckIn) : (s.note i f).plant = s.plant := rfl

@[simp] theorem State.raiseAlert_plant (s : State) (kind : AlertKind) (k : Option SecIx) (tag : Option Nat) :
    (s.raiseAlert kind k tag).plant = s.plant := by
  unfold State.plant
  simp

@[simp] theorem State.modQueue_plant (s : State) (k : SecIx) (f : List QEntry → List QEntry) :
    (s.modQueue k f).plant = s.plant := by
  have h : ∀ l : SecIx, ({ (s.modQueue k f).secs[l] with queue := [] } : Sec) = { s.secs[l] with queue := [] } := by
    intro l
    unfold State.modQueue
    rw [State.modSec_sec]
    split
    · next e => subst e; rfl
    · rfl
  unfold State.plant
  simp only [h]
  rfl

@[simp] theorem State.modTruck_plant (s : State) (i : SlotIx) (f : Truck → Truck) :
    (s.modTruck i f).plant = s.plant := by
  unfold State.modTruck; split <;> rfl

@[simp] theorem State.setContact_plant (s : State) (i : SlotIx) (c : Contact) :
    (s.setContact i c).plant = s.plant := by simp [State.setContact]

@[simp] theorem State.setSec_plant (s : State) (i : SlotIx) (k : Option SecIx) :
    (s.setSec i k).plant = s.plant := by simp [State.setSec]

@[simp] theorem State.putGrant_plant (s : State) (i : SlotIx) (g : Nat) : (s.putGrant i g).plant = s.plant := by
  simp [State.putGrant]

@[simp] theorem State.queueOrder_plant (s : State) (i : SlotIx) (o : Order) : (s.queueOrder i o).plant = s.plant := by
  unfold State.queueOrder; split <;> simp

@[simp] theorem State.queueGrant_plant (s : State) (i : SlotIx) (c : Nat) : (s.queueGrant i c).plant = s.plant := by
  unfold State.queueGrant; split <;> simp

@[simp] theorem State.setGrant_plant (s : State) (i : SlotIx) (g : Nat) : (s.setGrant i g).plant = s.plant := by
  unfold State.setGrant; split
  · split <;> simp
  · rfl

@[simp] theorem State.setFlags_plant (s : State) (i : SlotIx) : (s.setFlags i).plant = s.plant := by
  simp [State.setFlags]

/-! ### Cuts and trims -/

@[simp] theorem State.cutGrants_plant (w : State → SlotIx → Nat → State) (hw : ∀ s i g, (w s i g).plant = s.plant)
    (p : Truck → Bool) (e : Nat) (s : State) : (s.cutGrants w p e).plant = s.plant := by
  unfold State.cutGrants
  generalize allSlots.reverse = l
  suffices h : ∀ x : State × Nat, x.1.plant = s.plant →
      (l.foldl (fun (x : State × Nat) i =>
        match x.1.truck? i with
        | some t => if p t then (w x.1 i (t.grant - min t.grant x.2), x.2 - min t.grant x.2) else x
        | none => x) x).1.plant = s.plant from h (s, e) rfl
  induction l with
  | nil => intro x hx; exact hx
  | cons a l ih =>
    intro x hx
    refine ih _ ?_
    dsimp only
    split
    · split
      · simp [hw, hx]
      · exact hx
    · exact hx

@[simp] theorem State.trim_plant (s : State) (k : SecIx) : (s.trim k).plant = s.plant := by
  unfold State.trim
  split
  · simp
  · rfl

@[simp] theorem State.trimFalls_plant (a b : State) : (State.trimFalls a b).plant = b.plant := by
  unfold State.trimFalls
  exact State.eachSec_view State.plant (fun k s => by split <;> simp) b

theorem State.trimming_plant (f : State → State) (hf : ∀ s, (f s).plant = s.plant) (s : State) :
    (State.trimming f s).plant = s.plant := by simp [State.trimming, hf]

/-! ### The Truck Roster and the Contact Supervisor -/

@[simp] theorem State.dropEntry_plant (s : State) (i : SlotIx) : (s.dropEntry i).plant = s.plant := by
  unfold State.dropEntry
  exact State.eachSec_view State.plant (fun k s => by simp) s

@[simp] theorem State.release_plant (s : State) (i : SlotIx) : (s.release i).plant = s.plant := by
  unfold State.release
  split
  · rfl
  · rfl

@[simp] theorem State.releaseChecks_plant (s : State) (i : SlotIx) : (s.releaseChecks i).plant = s.plant := by
  unfold State.releaseChecks
  repeat' split
  all_goals simp

@[simp] theorem State.positionRelease_plant (s : State) (i : SlotIx) : (s.positionRelease i).plant = s.plant := by
  unfold State.positionRelease
  repeat' split
  all_goals simp

@[simp] theorem State.enterEnrolled_plant (s : State) (i : SlotIx) (o : Option Order) :
    (s.enterEnrolled i o).plant = s.plant := by
  unfold State.enterEnrolled
  cases o <;> simp

@[simp] theorem State.lower_plant (s : State) (i : SlotIx) (r : LowerReason) : (s.lower i r).plant = s.plant := by
  unfold State.lower
  repeat' split
  all_goals simp

@[simp] theorem State.staleCheck_plant (s : State) (i : SlotIx) : (s.staleCheck i).plant = s.plant := by
  unfold State.staleCheck
  repeat' split
  all_goals simp

@[simp] theorem State.startShedding_plant (s : State) (i : SlotIx) (g : GapIx) :
    (s.startShedding i g).plant = s.plant := by
  unfold State.startShedding
  split <;> simp

@[simp] theorem State.zoneAct_plant (s : State) (i : SlotIx) : (s.zoneAct i).plant = s.plant := by
  unfold State.zoneAct
  dsimp only
  repeat' split
  all_goals simp

@[simp] theorem State.clearToRaise_plant (s : State) (i : SlotIx) : (s.clearToRaise i).plant = s.plant := by
  simp [State.clearToRaise]

@[simp] theorem State.restore_plant (s : State) (i : SlotIx) : (s.restore i).plant = s.plant := by
  unfold State.restore
  repeat' split
  all_goals simp

@[simp] theorem State.heldMove_plant (s : State) (i : SlotIx) (k : Option SecIx) : (s.heldMove i k).plant = s.plant := by
  unfold State.heldMove
  dsimp only
  repeat' split
  all_goals simp

@[simp] theorem State.hold_plant (s : State) (i : SlotIx) : (s.hold i).plant = s.plant := by
  unfold State.hold
  repeat' split
  · rfl
  · rfl
  · dsimp only; split <;> simp

@[simp] theorem State.holdSection_plant (s : State) (k : SecIx) : (s.holdSection k).plant = s.plant := by
  unfold State.holdSection
  exact State.eachSlot_view State.plant (fun i s => by repeat' split
                                                       all_goals simp) s

@[simp] theorem State.restoreSection_plant (s : State) (k : SecIx) : (s.restoreSection k).plant = s.plant := by
  unfold State.restoreSection
  exact State.eachSlot_view State.plant (fun i s => by repeat' split
                                                       all_goals simp) s

@[simp] theorem State.queueMove_plant (s : State) (i : SlotIx) (k : Option SecIx) :
    (s.queueMove i k).plant = s.plant := by
  unfold State.queueMove
  dsimp only
  repeat' split
  all_goals simp

@[simp] theorem State.requeue_plant (s : State) (i : SlotIx) : (s.requeue i).plant = s.plant := by
  unfold State.requeue
  repeat' split
  all_goals simp

/-! ### The Gap Monitor -/

@[simp] theorem State.raiseOverrun_plant (s : State) (tag : Nat) (ks : List SecIx) :
    (s.raiseOverrun tag ks).plant = s.plant := by
  unfold State.raiseOverrun
  induction ks generalizing s with
  | nil => rfl
  | cons k ks ih => rw [List.foldl_cons, ih]; simp

@[simp] theorem State.overrun_plant (s : State) (i : SlotIx) (ks : List SecIx) : (s.overrun i ks).plant = s.plant := by
  unfold State.overrun
  split <;> simp

@[simp] theorem State.sectionChange_plant (s : State) (i : SlotIx) (e : Nat) (a : Bool) (k : Option SecIx) :
    (s.sectionChange i e a k).plant = s.plant := by
  unfold State.sectionChange
  repeat' split
  all_goals (try dsimp only)
  all_goals (try split)
  all_goals simp

@[simp] theorem State.positionCheck_plant (s : State) (i : SlotIx) (e : Nat) (a : Bool) :
    (s.positionCheck i e a).plant = s.plant := by
  unfold State.positionCheck
  split
  · rfl
  · dsimp only
    repeat' split
    all_goals simp

@[simp] theorem State.transfer_plant (s : State) (i : SlotIx) : (s.transfer i).plant = s.plant := by
  unfold State.transfer
  repeat' split
  all_goals (try dsimp only)
  all_goals (try split)
  all_goals simp

@[simp] theorem State.transferCheck_plant (s : State) (i : SlotIx) : (s.transferCheck i).plant = s.plant := by
  unfold State.transferCheck
  repeat' split
  all_goals simp

@[simp] theorem State.gapSteps_plant (s : State) (i : SlotIx) (e : Nat) : (s.gapSteps i e).plant = s.plant := by
  simp [State.gapSteps]

@[simp] theorem State.confirm_plant (s : State) (i : SlotIx) : (s.confirm i).plant = s.plant := by
  unfold State.confirm
  repeat' split
  all_goals simp

@[simp] theorem State.completeRaise_plant (s : State) (i : SlotIx) : (s.completeRaise i).plant = s.plant := by
  unfold State.completeRaise
  dsimp only
  repeat' split
  all_goals simp

@[simp] theorem State.refind_plant (s : State) (i : SlotIx) : (s.refind i).plant = s.plant := by
  unfold State.refind
  split <;> simp

@[simp] theorem State.contactEffects_plant (s : State) (i : SlotIx) (old : Truck) (d : Dir) (p : Panto) :
    (s.contactEffects i old d p).plant = s.plant := by
  unfold State.contactEffects State.reportDown State.reportTurned State.reportUp
  dsimp only
  repeat' split
  all_goals simp

@[simp] theorem State.demandCut_plant (s : State) (i : SlotIx) : (s.demandCut i).plant = s.plant := by
  unfold State.demandCut
  repeat' split
  all_goals simp

@[simp] theorem State.arcCheck_plant (s : State) (i : SlotIx) (n : Nat) : (s.arcCheck i n).plant = s.plant := by
  unfold State.arcCheck
  repeat' split
  all_goals simp

/-! ### Truck requests -/

/-- REPORT touches no plant (R19 to R23, R43). -/
@[simp] theorem State.report_plant (s : State) (x : ReportFields) : (s.report x).1.plant = s.plant := by
  unfold State.report
  split
  · rfl
  · split
    · dsimp only
      split <;> simp [State.trimming]
    · rfl

/-- ENROL touches no plant (R17, R18). -/
@[simp] theorem State.enrol_plant (s : State) (x : EnrolFields) : (s.enrol x).1.plant = s.plant := by
  unfold State.enrol refuse
  repeat' split
  all_goals (try dsimp only)
  all_goals (try split)
  all_goals simp

/-- RAISE touches no plant (R44, R87). -/
@[simp] theorem State.raiseTruck_plant (s : State) (tag : Nat) : (s.raiseTruck tag).1.plant = s.plant := by
  unfold State.raiseTruck State.admission refuse
  repeat' split
  all_goals (try dsimp only)
  all_goals (try split)
  all_goals simp

/-- DEPART touches no plant (R33). -/
@[simp] theorem State.depart_plant (s : State) (tag : Nat) : (s.depart tag).1.plant = s.plant := by
  unfold State.depart refuse
  repeat' split
  all_goals simp

end Sys2Proof.Machine
end

