-- ==== Sys2Proof/Laws/Feeder.lean ====
section
/-! SUPPORT. What the operations of the Feeder Sequencer and of Feeder Protection leave alone: time, limits, settings, scans,
inputs, masks, and all of the link but its notices. And what they do to the section they act on. -/

namespace Sys2Proof.Machine

/-! ### Sections -/

/-- A section update that keeps the settings touches nothing outer. -/
theorem State.modSec_outer (s : State) (k : SecIx) (f : Sec → Sec) (hf : ∀ x, (f x).settings = x.settings) :
    (s.modSec k f).plant.outer = s.plant.outer := by
  have h : ∀ l : SecIx, (s.modSec k f).secs[l].settings = s.secs[l].settings := by
    intro l
    rw [State.modSec_sec]
    split
    · next e => subst e; exact hf _
    · rfl
  unfold Plant.outer State.plant
  simp only [h]
  rfl

@[simp] theorem State.modFeeder_outer (s : State) (k : SecIx) (f : Feeder → Feeder) :
    (s.modFeeder k f).plant.outer = s.plant.outer := s.modSec_outer k _ fun _ => rfl

@[simp] theorem State.modProt_outer (s : State) (k : SecIx) (f : Prot → Prot) :
    (s.modProt k f).plant.outer = s.plant.outer := s.modSec_outer k _ fun _ => rfl

@[simp] theorem State.modBudget_outer (s : State) (k : SecIx) (f : SecBudget → SecBudget) :
    (s.modBudget k f).plant.outer = s.plant.outer := s.modSec_outer k _ fun _ => rfl

@[simp] theorem State.queueSection_outer (s : State) (k : SecIx) :
    (s.queueSection k).plant.outer = s.plant.outer := rfl

@[simp] theorem State.setSource_outer (s : State) (x : Option SecIx) :
    ({ s with source := x } : State).plant.outer = s.plant.outer := rfl

@[simp] theorem State.setWaitList_outer (s : State) (x : List SecIx) :
    ({ s with waitList := x } : State).plant.outer = s.plant.outer := rfl

@[simp] theorem State.setBusTrip_outer (s : State) (x : Bool) (l : List SecIx) :
    ({ s with busTrip := x, waitList := l } : State).plant.outer = s.plant.outer := rfl

/-! ### The Feeder Sequencer -/

/-- The phase and cause that a change of state leaves (R160). -/
theorem State.enterPhase_feeder (s : State) (k : SecIx) (p : Phase) (c : Cause) :
    ((s.enterPhase k p c).secs[k]).feeder =
      { s.secs[k].feeder with
        phase := p, cause := c
        openConfirm := if s.mainClose k && !p.mainClose then some Config.breakerConfirm
          else s.secs[k].feeder.openConfirm } := by
  unfold State.enterPhase
  simp

/-- A change of state touches no other section. -/
theorem State.enterPhase_ne (s : State) {k l : SecIx} (p : Phase) (c : Cause) (h : l ≠ k) :
    (s.enterPhase k p c).secs[l] = s.secs[l] := by
  unfold State.enterPhase State.modFeeder
  simp only [State.queueSection_secs]
  exact s.modSec_sec_ne _ h

@[simp] theorem State.enterPhase_outer (s : State) (k : SecIx) (p : Phase) (c : Cause) :
    (s.enterPhase k p c).plant.outer = s.plant.outer := by
  unfold State.enterPhase
  rw [State.queueSection_outer, State.modFeeder_outer]

@[simp] theorem State.enterTesting_outer (s : State) (k : SecIx) (a : Bool) (c : Cause) :
    (s.enterTesting k a c).plant.outer = s.plant.outer := by
  unfold State.enterTesting
  rw [State.enterPhase_outer]
  rfl

@[simp] theorem State.askSource_outer (s : State) (k : SecIx) (a : Bool) (c : Cause) :
    (s.askSource k a c).plant.outer = s.plant.outer := by
  unfold State.askSource
  split
  · simp
  · rw [State.enterPhase_outer]; rfl

@[simp] theorem State.releaseSource_outer (s : State) (k : SecIx) :
    (s.releaseSource k).plant.outer = s.plant.outer := by
  unfold State.releaseSource
  repeat' split
  all_goals (try dsimp only)
  all_goals (try rw [State.enterTesting_outer])
  all_goals rfl

@[simp] theorem State.leaveLive_outer (s : State) (k : SecIx) : (s.leaveLive k).plant.outer = s.plant.outer := by
  unfold State.leaveLive
  rw [State.holdSection_plant, State.modBudget_outer]

@[simp] theorem State.takeDown_outer (s : State) (k : SecIx) (p : Phase) (c : Cause) :
    (s.takeDown k p c).plant.outer = s.plant.outer := by
  unfold State.takeDown
  dsimp only
  rw [State.releaseSource_outer]
  split
  · rw [State.leaveLive_outer, State.enterPhase_outer]; rfl
  · rw [State.enterPhase_outer]; rfl

@[simp] theorem State.lockOut_outer (s : State) (k : SecIx) (c : Cause) :
    (s.lockOut k c).plant.outer = s.plant.outer := by
  unfold State.lockOut
  dsimp only
  split <;> simp

@[simp] theorem State.allDown_outer (s : State) (b : Option SecIx) (c : Cause) :
    (s.allDown b c).plant.outer = s.plant.outer := by
  unfold State.allDown
  exact State.eachSec_view (fun x => x.plant.outer) (fun k s => by split <;> simp) s

@[simp] theorem State.trip_outer (s : State) (k : SecIx) (c : Cause) : (s.trip k c).plant.outer = s.plant.outer := by
  unfold State.trip
  split
  · dsimp only
    split <;> simp
  · rfl

@[simp] theorem State.reclose_outer (s : State) (k : SecIx) : (s.reclose k).plant.outer = s.plant.outer := by
  simp [State.reclose]

@[simp] theorem State.enterLive_outer (s : State) (k : SecIx) : (s.enterLive k).plant.outer = s.plant.outer := by
  simp [State.enterLive]

@[simp] theorem State.stuckBreaker_outer (s : State) (k : SecIx) :
    (s.stuckBreaker k).plant.outer = s.plant.outer := by
  unfold State.stuckBreaker
  split
  · simp
  · dsimp only
    rw [State.allDown_outer, State.setBusTrip_outer]
    split
    · rw [State.raiseAlert_plant, State.enterPhase_outer]
    · exact State.lockOut_outer _ _ _

@[simp] theorem State.verdict_outer (s : State) (k : SecIx) (a : Bool) (m : Nat) :
    (s.verdict k a m).plant.outer = s.plant.outer := by
  unfold State.verdict
  repeat' split
  all_goals simp

@[simp] theorem State.scanFeeder_outer (s : State) (r : ScanResult) (k : SecIx) :
    (s.scanFeeder r k).plant.outer = s.plant.outer := by
  unfold State.scanFeeder
  repeat' split
  all_goals simp

@[simp] theorem State.closeFeedback_outer (s : State) (k : SecIx) :
    (s.closeFeedback k).plant.outer = s.plant.outer := by
  unfold State.closeFeedback
  repeat' split
  all_goals simp

/-! ### Feeder Protection -/

@[simp] theorem State.tripChecks_outer (s : State) (c : Settings) (current : Nat) (inc : Int) (k : SecIx) :
    (s.tripChecks c current inc k).plant.outer = s.plant.outer := by
  unfold State.tripChecks
  repeat' split
  all_goals simp

@[simp] theorem State.sagStep_outer (s : State) (far : Nat) (k : SecIx) :
    (s.sagStep far k).plant.outer = s.plant.outer := by
  unfold State.sagStep
  split
  · dsimp only; split <;> simp
  · rfl

@[simp] theorem State.drawStep_outer (s : State) (current : Nat) (k : SecIx) :
    (s.drawStep current k).plant.outer = s.plant.outer := by
  unfold State.drawStep
  split
  · dsimp only; split <;> simp
  · rfl

@[simp] theorem State.evaluate_outer (s : State) (r : ScanResult) (k : SecIx) :
    (s.evaluate r k).plant.outer = s.plant.outer := by
  unfold State.evaluate
  split <;> simp

end Sys2Proof.Machine
end

