-- ==== Sys2Proof/Laws/PerInstr.lean ====
section
/-! SUPPORT. One lemma per command for the family `BodyTag`: a command has a request body exactly where it carries a request
header, and the body's second byte is the header's tag (R195, R202). -/

/-- A request's body carries the request's tag in its second byte; a command that is no request has no body. -/
def Sys2Proof.Laws.BodyTag.Statement (i : Sys2Proof.Instr) : Prop :=
  (Sys2Proof.Machine.bodyOf i).map (fun b => Sys2Proof.Machine.byteAt b 1) = i.hdr?.map (·.tag)

theorem Sys2Proof.Laws.BodyTag.configureSection (h : Sys2Proof.ReqHdr) (x : Sys2Proof.ConfigFields) :
    Sys2Proof.Laws.BodyTag.Statement (.configureSection h x) := rfl

theorem Sys2Proof.Laws.BodyTag.setLimits (h : Sys2Proof.ReqHdr) (x : Sys2Proof.LimitFields) :
    Sys2Proof.Laws.BodyTag.Statement (.setLimits h x) := rfl

theorem Sys2Proof.Laws.BodyTag.setCadence (h : Sys2Proof.ReqHdr) (mode : Sys2Proof.Byte) (period : Sys2Proof.Half) :
    Sys2Proof.Laws.BodyTag.Statement (.setCadence h mode period) := rfl

theorem Sys2Proof.Laws.BodyTag.scan (h : Sys2Proof.ReqHdr) :
    Sys2Proof.Laws.BodyTag.Statement (.scan h) := rfl

theorem Sys2Proof.Laws.BodyTag.energize (h : Sys2Proof.ReqHdr) (sec : Sys2Proof.Byte) (allow : Sys2Proof.Byte) :
    Sys2Proof.Laws.BodyTag.Statement (.energize h sec allow) := rfl

theorem Sys2Proof.Laws.BodyTag.deEnergize (h : Sys2Proof.ReqHdr) (sec : Sys2Proof.Byte) :
    Sys2Proof.Laws.BodyTag.Statement (.deEnergize h sec) := rfl

theorem Sys2Proof.Laws.BodyTag.clearLockout (h : Sys2Proof.ReqHdr) (sec : Sys2Proof.Byte) :
    Sys2Proof.Laws.BodyTag.Statement (.clearLockout h sec) := rfl

theorem Sys2Proof.Laws.BodyTag.enrol (h : Sys2Proof.ReqHdr) (x : Sys2Proof.EnrolFields) :
    Sys2Proof.Laws.BodyTag.Statement (.enrol h x) := rfl

theorem Sys2Proof.Laws.BodyTag.report (h : Sys2Proof.ReqHdr) (x : Sys2Proof.ReportFields) :
    Sys2Proof.Laws.BodyTag.Statement (.report h x) := rfl

theorem Sys2Proof.Laws.BodyTag.raise (h : Sys2Proof.ReqHdr) (truck : Sys2Proof.Half) :
    Sys2Proof.Laws.BodyTag.Statement (.raise h truck) := rfl

theorem Sys2Proof.Laws.BodyTag.depart (h : Sys2Proof.ReqHdr) (truck : Sys2Proof.Half) :
    Sys2Proof.Laws.BodyTag.Statement (.depart h truck) := rfl

theorem Sys2Proof.Laws.BodyTag.querySection (h : Sys2Proof.ReqHdr) (sec : Sys2Proof.Byte) :
    Sys2Proof.Laws.BodyTag.Statement (.querySection h sec) := rfl

theorem Sys2Proof.Laws.BodyTag.queryTruck (h : Sys2Proof.ReqHdr) (truck : Sys2Proof.Half) :
    Sys2Proof.Laws.BodyTag.Statement (.queryTruck h truck) := rfl

theorem Sys2Proof.Laws.BodyTag.queryQueue (h : Sys2Proof.ReqHdr) (sec : Sys2Proof.Byte) :
    Sys2Proof.Laws.BodyTag.Statement (.queryQueue h sec) := rfl

theorem Sys2Proof.Laws.BodyTag.attend (h : Sys2Proof.ReqHdr) :
    Sys2Proof.Laws.BodyTag.Statement (.attend h) := rfl

theorem Sys2Proof.Laws.BodyTag.ackAlert (h : Sys2Proof.ReqHdr) :
    Sys2Proof.Laws.BodyTag.Statement (.ackAlert h) := rfl

theorem Sys2Proof.Laws.BodyTag.maskSection (h : Sys2Proof.ReqHdr) (sec : Sys2Proof.Byte) (setting : Sys2Proof.Byte) :
    Sys2Proof.Laws.BodyTag.Statement (.maskSection h sec setting) := rfl

theorem Sys2Proof.Laws.BodyTag.selfCheck (h : Sys2Proof.ReqHdr) :
    Sys2Proof.Laws.BodyTag.Statement (.selfCheck h) := rfl

theorem Sys2Proof.Laws.BodyTag.restart (h : Sys2Proof.ReqHdr) :
    Sys2Proof.Laws.BodyTag.Statement (.restart h) := rfl

theorem Sys2Proof.Laws.BodyTag.unknownKindRequest (h : Sys2Proof.ReqHdr) (kind : Sys2Proof.Byte) :
    Sys2Proof.Laws.BodyTag.Statement (.unknownKindRequest h kind) := rfl

theorem Sys2Proof.Laws.BodyTag.frameDiscarded (cause : Sys2Proof.DiscardCause) :
    Sys2Proof.Laws.BodyTag.Statement (.frameDiscarded cause) := rfl

theorem Sys2Proof.Laws.BodyTag.frameBufferFull :
    Sys2Proof.Laws.BodyTag.Statement .frameBufferFull := rfl

theorem Sys2Proof.Laws.BodyTag.linkInterByteTimeout (next : Sys2Proof.Byte) :
    Sys2Proof.Laws.BodyTag.Statement (.linkInterByteTimeout next) := rfl

theorem Sys2Proof.Laws.BodyTag.transmitFrameEnd :
    Sys2Proof.Laws.BodyTag.Statement .transmitFrameEnd := rfl

theorem Sys2Proof.Laws.BodyTag.reset (strap1 strap2 : Bool) :
    Sys2Proof.Laws.BodyTag.Statement (.reset strap1 strap2) := rfl

theorem Sys2Proof.Laws.BodyTag.cadenceTimerExpiry :
    Sys2Proof.Laws.BodyTag.Statement .cadenceTimerExpiry := rfl

theorem Sys2Proof.Laws.BodyTag.scanCompletion (codes : Vector (BitVec 12) 22) :
    Sys2Proof.Laws.BodyTag.Statement (.scanCompletion codes) := rfl

theorem Sys2Proof.Laws.BodyTag.fprScanEvaluation :
    Sys2Proof.Laws.BodyTag.Statement .fprScanEvaluation := rfl

theorem Sys2Proof.Laws.BodyTag.fsqScanEvaluation :
    Sys2Proof.Laws.BodyTag.Statement .fsqScanEvaluation := rfl

theorem Sys2Proof.Laws.BodyTag.budgetCycleInputs :
    Sys2Proof.Laws.BodyTag.Statement .budgetCycleInputs := rfl

theorem Sys2Proof.Laws.BodyTag.budgetCyclePublication :
    Sys2Proof.Laws.BodyTag.Statement .budgetCyclePublication := rfl

theorem Sys2Proof.Laws.BodyTag.breakerFeedbackClosed (k : Sys2Proof.SecIx) :
    Sys2Proof.Laws.BodyTag.Statement (.breakerFeedbackClosed k) := rfl

theorem Sys2Proof.Laws.BodyTag.breakerFeedbackOpen (k : Sys2Proof.SecIx) :
    Sys2Proof.Laws.BodyTag.Statement (.breakerFeedbackOpen k) := rfl

theorem Sys2Proof.Laws.BodyTag.gapSensorActivation (g : Sys2Proof.GapIx) :
    Sys2Proof.Laws.BodyTag.Statement (.gapSensorActivation g) := rfl

theorem Sys2Proof.Laws.BodyTag.gapSensorDeactivation (g : Sys2Proof.GapIx) :
    Sys2Proof.Laws.BodyTag.Statement (.gapSensorDeactivation g) := rfl

theorem Sys2Proof.Laws.BodyTag.stopActivation :
    Sys2Proof.Laws.BodyTag.Statement .stopActivation := rfl

theorem Sys2Proof.Laws.BodyTag.stopRelease :
    Sys2Proof.Laws.BodyTag.Statement .stopRelease := rfl

theorem Sys2Proof.Laws.BodyTag.raiseWindowExpiry (slot : Sys2Proof.SlotIx) :
    Sys2Proof.Laws.BodyTag.Statement (.raiseWindowExpiry slot) := rfl

theorem Sys2Proof.Laws.BodyTag.lowerWindowExpiry (slot : Sys2Proof.SlotIx) :
    Sys2Proof.Laws.BodyTag.Statement (.lowerWindowExpiry slot) := rfl

theorem Sys2Proof.Laws.BodyTag.shedDeadlineExpiry (slot : Sys2Proof.SlotIx) :
    Sys2Proof.Laws.BodyTag.Statement (.shedDeadlineExpiry slot) := rfl

theorem Sys2Proof.Laws.BodyTag.stalePointPassed (slot : Sys2Proof.SlotIx) :
    Sys2Proof.Laws.BodyTag.Statement (.stalePointPassed slot) := rfl

theorem Sys2Proof.Laws.BodyTag.staleLower (slot : Sys2Proof.SlotIx) :
    Sys2Proof.Laws.BodyTag.Statement (.staleLower slot) := rfl

theorem Sys2Proof.Laws.BodyTag.idleRelease (slot : Sys2Proof.SlotIx) :
    Sys2Proof.Laws.BodyTag.Statement (.idleRelease slot) := rfl

theorem Sys2Proof.Laws.BodyTag.arcTallyDecay (slot : Sys2Proof.SlotIx) :
    Sys2Proof.Laws.BodyTag.Statement (.arcTallyDecay slot) := rfl

theorem Sys2Proof.Laws.BodyTag.raiseBarExpiry (slot : Sys2Proof.SlotIx) :
    Sys2Proof.Laws.BodyTag.Statement (.raiseBarExpiry slot) := rfl

theorem Sys2Proof.Laws.BodyTag.testTimeout (k : Sys2Proof.SecIx) :
    Sys2Proof.Laws.BodyTag.Statement (.testTimeout k) := rfl

theorem Sys2Proof.Laws.BodyTag.prechargeWindowExpiry (k : Sys2Proof.SecIx) :
    Sys2Proof.Laws.BodyTag.Statement (.prechargeWindowExpiry k) := rfl

theorem Sys2Proof.Laws.BodyTag.closeConfirmExpiry (k : Sys2Proof.SecIx) :
    Sys2Proof.Laws.BodyTag.Statement (.closeConfirmExpiry k) := rfl

theorem Sys2Proof.Laws.BodyTag.openConfirmationExpiry (k : Sys2Proof.SecIx) :
    Sys2Proof.Laws.BodyTag.Statement (.openConfirmationExpiry k) := rfl

theorem Sys2Proof.Laws.BodyTag.recloseTimerExpiry (k : Sys2Proof.SecIx) :
    Sys2Proof.Laws.BodyTag.Statement (.recloseTimerExpiry k) := rfl

theorem Sys2Proof.Laws.BodyTag.tripWindowExpiry (k : Sys2Proof.SecIx) :
    Sys2Proof.Laws.BodyTag.Statement (.tripWindowExpiry k) := rfl

theorem Sys2Proof.Laws.BodyTag.inputFilterSampling (levels : Sys2Proof.InputLevels) :
    Sys2Proof.Laws.BodyTag.Statement (.inputFilterSampling levels) := rfl
end

