-- ==== Sys2Proof/Laws/Requests.lean ====
section
/-! SUPPORT. What a taken request leaves in the link (R193, R195, R198), said once for all requests: an owner that leaves the
receiver, the slots, the transmitter and the rate alone gets its reply stored behind those in use. -/

namespace Sys2Proof.Machine

/-- The parts of the link that a request's owner leaves alone. -/
def Link.sameLine (l m : Link) : Prop := m.rx = l.rx ∧ m.inbound = l.inbound ∧ m.tx = l.tx ∧ m.rate = l.rate

/-- A frame of a kind's length is one the link takes while a slot is empty. -/
theorem Taken.ready {h : ReqHdr} {len : Nat} {s : State} (ht : Taken h len s) (lo : Config.minBody ≤ len)
    (hi : len ≤ Config.maxBody) : h.inFrame = true ∧ s.ready = true := by
  obtain ⟨_, e, hs⟩ := ht
  refine ⟨?_, ?_⟩
  · simp [ReqHdr.inFrame, e, lo, hi]
  · simpa [State.ready] using hs

/-- What starting a frame does once a reply is stored: an idle transmitter sends it (R198). -/
theorem State.kick_store (s : State) (i : Instr) (tag kind : Byte) (d : ReplyData) :
    (s.store i tag kind d).kick =
      { s with link := { s.link with
          inbound := s.link.inbound ++ [⟨i, ⟨tag, kind, d⟩⟩]
          tx := if s.link.tx = .idle then .reply else s.link.tx } } := by
  have hne : (s.store i tag kind d).link.inbound ≠ [] := by simp
  rcases (s.store i tag kind d).kick_spec with ⟨h, e⟩ | ⟨h, _, e⟩ | ⟨_, h, _⟩
  · have : s.link.tx ≠ .idle := h
    rw [e, if_neg this]; rfl
  · have : s.link.tx = .idle := h
    rw [e, if_pos this]; rfl
  · exact absurd h hne

/-- A taken request is answered with its owner's reply, and leaves what its owner leaves (R193, R195). -/
theorem Taken.answered {h : ReqHdr} {len : Nat} {s : State} (ht : Taken h len s) (lo : Config.minBody ≤ len)
    (hi : len ≤ Config.maxBody) (i : Instr) (kind : Byte) (own : State → State × ReplyData)
    (hk : Link.sameLine s.hunt.link (own s.hunt).1.link) :
    ∃ t, takeRequest i h kind len own s = .next t ∧ Answers i h kind (own s.hunt).2 s t
      ∧ t.link.notices = (own s.hunt).1.link.notices ∧ t.unlinked = (own s.hunt).1.unlinked := by
  rcases takeRequest_spec i h kind len own s with ⟨hr, _⟩ | ⟨_, hm, _⟩ | ⟨_, _, _, e⟩
  · exact absurd (ht.ready lo hi) hr
  · rcases hm with hm | hm
    · exact absurd hm ht.1
    · exact absurd ht.2.1 hm
  · obtain ⟨h1, h2, h3, h4⟩ := hk
    refine ⟨_, e, ⟨?_, ?_, ?_, ?_⟩, ?_, ?_⟩ <;> rw [State.kick_store]
    · exact h1
    · exact congrArg (· ++ [_]) h2
    · exact h4
    · have : (own s.hunt).1.link.tx = s.link.tx := h3
      simp only [this]
    · rfl

/-- A taken request whose owner changes nothing changes nothing but the link. -/
theorem Taken.onlyAnswers {h : ReqHdr} {len : Nat} {s : State} (ht : Taken h len s) (lo : Config.minBody ≤ len)
    (hi : len ≤ Config.maxBody) (i : Instr) (kind : Byte) (own : State → State × ReplyData) (d : ReplyData)
    (ho : own s.hunt = (s.hunt, d)) :
    ∃ t, takeRequest i h kind len own s = .next t ∧ OnlyAnswers i h kind d s t := by
  obtain ⟨t, e, a, n, u⟩ := ht.answered lo hi i kind own (by rw [ho]; exact ⟨rfl, rfl, rfl, rfl⟩)
  rw [ho] at a n u
  exact ⟨t, e, a, n, u⟩

/-- The line of the link is part of the plant, so a truck operation leaves it alone. -/
theorem Link.sameLine_of_plant {s t : State} (h : t.plant = s.plant) : Link.sameLine s.link t.link :=
  ⟨congrArg Plant.rx h, congrArg Plant.inbound h, congrArg Plant.tx h, congrArg Plant.rate h⟩

/-- A feeder operation leaves it alone too. -/
theorem Link.sameLine_of_outer {s t : State} (h : t.plant.outer = s.plant.outer) : Link.sameLine s.link t.link :=
  ⟨congrArg Plant.rx h, congrArg Plant.inbound h, congrArg Plant.tx h, congrArg Plant.rate h⟩

end Sys2Proof.Machine
end

