-- ==== Sys2Proof/Tests/Slice0.lean ====
section
/-! SUPPORT. Tests of one command each on small states, with results taken from the manual's worked examples and tables, the
smoke tests of well-formedness, and for every obligation with hypotheses a state and operands that meet them. -/

namespace Sys2Proof.Tests

set_option Elab.async false

open Sys2Proof Sys2Proof.Machine

/-! ### States to test on -/

/-- What a command leaves, where it takes a next state. -/
def run (i : Instr) (s : State) : State :=
  match exec i s with
  | .next t => t
  | .fault _ => s
  | .refused _ => s

/-- The commands of a list, one after the other. -/
def runAll (l : List Instr) (s : State) : State := l.foldl (fun s i => run i s) s

/-- The data of the latest reply stored. -/
def lastReply (s : State) : Option ReplyData := s.link.inbound.getLast?.map (·.reply.data)

/-- A request header with tag 1. -/
def hd (n : Nat) : ReqHdr := ⟨1, n⟩

/-- The settings of the worked cases, for a section between two positions: feed point at its lower bound. -/
def settings (lo up : Nat) : Settings := ⟨lo, up, lo, 3000, 4200, 5000, 400000000, 30, 4, 1200, 5⟩

/-- A section with settings, in a feeder state with a cause. -/
def sec (lo up : Nat) (p : Phase) (c : Cause) : Sec :=
  { Sec.reset with settings := some (settings lo up), feeder := ⟨p, c, none, 0, none⟩ }

/-- A fresh climbing LOADED truck. -/
def truck (tag est : Nat) (k : Option SecIx) (c : Contact) : Truck where
  tag := tag
  cls := .loaded
  dir := .climb
  sec := k
  reported := est
  est := est
  rem := 0
  speed := 0
  panto := .up
  current := 0
  demand := 0
  lastCount := none
  arc := 0
  decayTimer := 2000
  bar := none
  age := 0
  stalePoint := 2000
  stale := false
  contact := c
  grant := 0
  firstCap := none
  drawMeter := 0
  drawWraps := 0
  retMeter := 0
  retWraps := 0
  zone := .none
  inside := false

/-- Trucks placed in a state's roster. -/
def place (l : List (SlotIx × Truck)) (s : State) : State := l.foldl (fun s x => s.setSlot x.1 (.occupied x.2)) s

/-- A ramp whose six sections stand in six feeder states: S3 owns the test source. -/
def ramp : State :=
  { State.reset with
    secs := #v[sec 0 640 .live .closed, sec 640 1200 .dead .configured,
      sec 1200 1850 (.testing false [800, 777] 70 5000) .energize, sec 1850 2400 (.precharge 0 2000) .lineClear,
      sec 2400 3000 (.tripped (some 5000) false) .overcurrent, sec 3000 3600 .lockedOut .lineFault]
    source := some 2 }

/-- A truck of each contact state in S1 and its approach to gap 1 at 640 m. -/
def yard : State :=
  place [(0, { truck 100 100 (some 0) .enrolled with panto := .down }),
    (1, { truck 101 200 (some 0) .waiting with panto := .down }),
    (2, { truck 102 200 (some 0) (.cleared 5000) with panto := .down }),
    (3, { truck 103 300 (some 0) .onWire with grant := 500, demand := 600, current := 450 }),
    (4, { truck 104 610 (some 0) (.shedding 0 1500) with grant := 100, demand := 600, current := 430, zone := .approach 0
                                                         inside := true }),
    (5, { truck 105 630 (some 0) (.crossing 0) with grant := 100, demand := 600, current := 90, zone := .approach 0
                                                    inside := true }),
    (6, truck 106 2500 (some 4) (.held .onWire 700)),
    (7, truck 107 100 (some 0) (.lowering (some 5000))),
    (8, { truck 108 400 (some 0) .onWire with dir := .descend, grant := 800, demand := 800 })]
    { ramp with secs := ramp.secs.set 0 { ramp.secs[0] with
        queue := [⟨1, 10, false⟩], budget := ⟨1000, 5, 0, 1⟩ } }

/-- A scan result with given codes: those not named read 2,048. -/
def codes (l : List (Nat × Nat)) : Vector (BitVec 12) 22 :=
  Vector.ofFn fun i => BitVec.ofNat 12 ((l.lookup i.val).getD 2048)

/-- A good scan with a Δt of 100 ms. -/
def scanOf (number instant : Nat) (l : List (Nat × Nat)) : ScanResult := ⟨number, instant, true, codes l, some 100⟩

/-- What an option holds satisfies a test that all of it does. -/
theorem of_all {α : Type} {o : Option α} {p : α → Bool} (h : o.all p = true) {x : α} (hx : o = some x) : p x = true := by
  subst hx
  simpa using h

/-- Every record of a state satisfies a test. -/
theorem of_trucks {s : State} (p : SlotIx → Truck → Bool) (h : ∀ i : SlotIx, (s.truck? i).all (p i) = true)
    (i : SlotIx) (r : Truck) (hr : s.truck? i = some r) : p i r = true := by
  have := h i
  rw [hr] at this
  simpa using this

/-- A step's outcome is a next state. -/
def isNext (o : Host.Outcome State Fault Refusal) : Bool :=
  match o with
  | .next _ => true
  | .fault _ => false
  | .refused _ => false

/-- A step that takes a next state has one. -/
theorem next_of {o : Host.Outcome State Fault Refusal} (h : isNext o = true) : ∃ t, o = .next t := by
  cases o with
  | next t => exact ⟨t, rfl⟩
  | fault f => cases h
  | refused r => cases h

/-! ### Well-formedness -/

/-- A body of one byte is no frame's (R191). -/
theorem test_wf_short_body : Instr.wellFormed (.scan ⟨1, 1⟩) = false := by decide

/-- A body of 61 bytes is no frame's (R191). -/
theorem test_wf_long_body : Instr.wellFormed (.attend ⟨1, 61⟩) = false := by decide

/-- A kind that names a request is not an unknown kind (R195, R202). -/
theorem test_wf_named_kind : Instr.wellFormed (.unknownKindRequest ⟨1, 5⟩ 0x21) = false := by decide

/-- A kind that names none is (R195). -/
theorem test_wf_unknown_kind : Instr.wellFormed (.unknownKindRequest ⟨1, 60⟩ 0x44) = true := by decide

/-- A command whose term spells no frame of an unknown kind is refused by name. -/
theorem test_named_kind_refused : exec (.unknownKindRequest ⟨1, 5⟩ 0x21) ramp = .refused .namedKind := rfl

/-! ### Frames -/

/-- The check over "123456789" is 0x29B1 (R191). -/
theorem test_crc : crc16 [0x31, 0x32, 0x33, 0x34, 0x35, 0x36, 0x37, 0x38, 0x39] = 0x29B1 := by decide +kernel

/-- The bytes of a RAISE for truck 517, taken one by one, are its body (R192, R202). -/
theorem test_receiver : (Rx.hunting.bytes (0x00 :: frameOf [0x22, 7, 2, 5])).2 = [[0x22, 7, 2, 5]] := by decide +kernel

/-- A DE-ENERGIZE of S3 by its bytes (R202). -/
theorem test_request_bytes : requestOf [0x12, 9, 3] = .deEnergize ⟨9, 3⟩ 3 := by decide

/-- The body of a SECTION notice: S3 TRIPPED, THERMAL, cycle 7,312 (R202). -/
theorem test_notice_bytes : (Notice.sec 2 .tripped .thermal 7312).body = [0x43, 0, 3, 8, 17, 0x1C, 0x90] := by decide

/-! ### Settings (worked example of chapter 1) -/

/-- CONFIGURE-SECTION as the example sends it. -/
def configure (k lo up f fp trip : Nat) : Instr :=
  .configureSection (hd 24) ⟨BitVec.ofNat 8 k, BitVec.ofNat 16 lo, BitVec.ofNat 16 up, BitVec.ofNat 16 lo,
    BitVec.ofNat 16 f, BitVec.ofNat 16 fp, BitVec.ofNat 16 trip, 400000000, 30, 3, 1200, 5⟩

theorem test_configure_needs_lower : lastReply (run (configure 2 640 1200 3000 4200 5000) .reset)
    = some (.reject .geometry 0) := by decide +kernel

theorem test_configure_s1 :
    ((run (configure 1 0 640 3000 4200 5000) .reset).phase 0,
      lastReply (runAll [configure 1 0 640 3000 4200 5000, configure 2 650 1200 3000 4200 5000] .reset))
    = (.dead, some (.reject .geometry 0)) := by decide +kernel

/-- SET-LIMITS with the defaults but for some of them. -/
def limits (vMin vMax c z : Nat) : Instr :=
  .setLimits (hd 28) ⟨BitVec.ofNat 16 vMin, BitVec.ofNat 16 vMax, BitVec.ofNat 16 c, BitVec.ofNat 8 z, 10, 1500, 5000, 5000,
    2000, 400, 300, 10, 30, 60, 6, 60⟩

theorem test_limits_vmax : lastReply (run (limits 2600 2700 100 40) .reset) = some (.reject .range 0) := by decide +kernel

theorem test_limits_cut : ((run (limits 1900 3000 60 40) yard).truck? 5).map (·.grant) = some 60 := by decide +kernel

/-! ### Sampler (tables of R133, R136) -/

theorem test_cadence : lastReply (run (.setCadence (hd 5) 0 45) .reset) = some (.reject .range 0) := by decide +kernel

theorem test_cadence_periodic : (run (.setCadence (hd 5) 1 100) .reset).smp.timer = some 100 := by decide +kernel

theorem test_scan_off : lastReply (run (.scan (hd 2)) .reset) = some (.reject .state 0) := by decide +kernel

/-- A single scan in a state. -/
def single : State := run (.setCadence (hd 5) 2 100) .reset

theorem test_scan_busy : lastReply (runAll [.scan (hd 2), .scan (hd 2)] single) = some (.reject .busy 0) := by
  decide +kernel

theorem test_scan_count : lastReply (run (.scan (hd 2)) { single with smp := { single.smp with count := 65535 } })
    = some (.scanCount 0) := by decide +kernel

theorem test_cadence_expiry :
    let t := run .cadenceTimerExpiry { State.reset with smp := { Sampler.reset with mode := .periodic, timer := some 30 } }
    (t.smp.inFlight, t.smp.timer, t.now) = (some 30, some 100, 30) := by decide +kernel

/-- A scan in flight, with a Δt base. -/
def flying (base at' run' : Nat) : State :=
  { State.reset with smp := { Sampler.reset with inFlight := some at', dtBase := some base, badRun := run' } }

/-- Rows two and four of the table of R133. -/
theorem test_delta : (deltaOf (some 40000) 40105, deltaOf (some 40000) 42700, deltaOf none 40100) = (100, 1000, 0) := by
  decide

theorem test_completion_good :
    (run (.scanCompletion (codes [(0, 2068)])) (flying 40000 40105 1)).bgeScans.map (·.dt) = [some 100] := by
  decide +kernel

theorem test_completion_third_bad :
    let t := run (.scanCompletion (codes [(0, 2069)])) { yard with smp := (flying 0 50 2).smp }
    (t.smp.badRun, (t.truck? 3).map (·.grant), t.alt.pending.map (·.kind)) = (3, some 0, [.measureFault]) := by
  decide +kernel

/-! ### Input filter (table of R140) -/

/-- Breaker feedback 1 sampled with given levels. -/
def sampled (l : List Bool) : List Instr :=
  l.map fun b => .inputFilterSampling ⟨#v[b, false, false, false, false, false], Vector.replicate 5 false, false⟩

theorem test_filter_bounce : (runAll (sampled [true, false, true]) .reset).feedbackClosed 0 = false := by decide +kernel

theorem test_filter_table :
    let t := runAll (sampled [true, false, true, true, false, true, false, false]) .reset
    (t.feedbackClosed 0, t.ifl.handed) = (false, [.breaker 0 true, .breaker 0 false]) := by decide +kernel

theorem test_stop_release : (run .stopRelease { ramp with ifl := { ramp.ifl with stop := ⟨none, none, true⟩ } }).stopActive
    = false := by decide +kernel

theorem test_stop_activation :
    let t := run .stopActivation yard
    (t.phase 0, t.source, t.phase 5, (t.truck? 3).map (·.contact)) = (.dead, none, .lockedOut, some (.held .onWire 500)) := by
  decide +kernel

/-! ### Feeder Sequencer (worked sequences of chapter 9) -/

theorem test_energize_waits :
    let t := run (.energize (hd 4) 2 0) ramp
    (t.phase 1, t.waitList) = (.testPending false, [1]) := by decide +kernel

theorem test_energize_stopped : lastReply (run (.energize (hd 4) 2 0)
    { ramp with ifl := { ramp.ifl with stop := ⟨none, none, true⟩ } }) = some (.reject .stopped 0) := by decide +kernel

theorem test_de_energize :
    let t := run (.deEnergize (hd 3) 1) yard
    (t.phase 0, t.secs[0].feeder.openConfirm, (t.truck? 3).map (·.contact)) =
      (.dead, some 200, some (.held .onWire 500)) := by decide +kernel

theorem test_de_energize_dead : lastReply (run (.deEnergize (hd 3) 2) ramp) = some (.reject .state 0) := by decide +kernel

theorem test_clear_lockout :
    ((run (.clearLockout (hd 3) 6) ramp).phase 5,
      lastReply (run (.clearLockout (hd 3) 6) { ramp with busTrip := true })) = (.dead, some (.reject .busTripped 0)) := by
  decide +kernel

/-- The third reading of S1's test is 825 ohms, the median 800 (worked sequence, 10,300 ms). -/
theorem test_verdict_clear :
    let t := run .fsqScanEvaluation { ramp with waitList := [1], fsqScans := [scanOf 1 10300 [(2, 2395), (3, 29)]]
                                                secs := ramp.secs.set 1 (sec 640 1200 (.testPending false) .energize) }
    ((t.phase 2).state, t.secs[2].feeder.cause, t.source, (t.phase 1).state) =
      (.precharge, .lineClear, some 1, .testing) := by decide +kernel

theorem test_precharge_threshold :
    let t (v : Nat) := run .fsqScanEvaluation { ramp with fsqScans := [scanOf 1 60 [(1, 2650), (14, v)]] }
    (((t 2384).phase 3).state, ((t 2385).phase 3).state) = (.precharge, .closing) := by decide +kernel

theorem test_feedback_live :
    let t := run (.breakerFeedbackClosed 3) { ramp with secs := ramp.secs.set 3 (sec 1850 2400 (.closing 137) .precharged) }
    (t.phase 3, t.mainClose 3, t.prechargeClose 3) = (.live, true, false) := by decide +kernel

theorem test_feedback_stuck :
    let t := run (.breakerFeedbackClosed 1) yard
    (t.phase 1, t.busTripOut, t.phase 0, t.source, t.secs[5].feeder.cause) =
      (.lockedOut, true, .dead, none, .lineFault) := by decide +kernel

theorem test_feedback_open :
    let t := run (.breakerFeedbackOpen 0) yard
    (t.phase 0, t.secs[0].feeder.tripCount, t.secs[0].feeder.tripWindow) =
      (.tripped (some 5000) false, 1, some 60000) := by decide +kernel

theorem test_third_trip :
    let x := { ramp.secs[0] with feeder := ⟨.live, .closed, none, 2, some 20000⟩ }
    let t := run (.breakerFeedbackOpen 0) { ramp with secs := ramp.secs.set 0 x }
    (t.phase 0, t.secs[0].feeder.cause, t.alt.pending.map (·.kind)) = (.lockedOut, .repeatedTrip, [.lockout, .trip]) := by
  decide +kernel

theorem test_test_timeout :
    let t := run (.testTimeout 2) ramp
    (t.phase 2, t.secs[2].feeder.cause, t.source, t.now) = (.dead, .testTimeout, none, 5000) := by decide +kernel

theorem test_precharge_expiry :
    let t := run (.prechargeWindowExpiry 3) ramp
    (t.phase 3, t.secs[3].feeder.cause, t.secs[3].feeder.openConfirm) = (.lockedOut, .prechargeFail, none) := by decide +kernel

theorem test_close_confirm :
    let t := run (.closeConfirmExpiry 3) { ramp with secs := ramp.secs.set 3 (sec 1850 2400 (.closing 200) .precharged) }
    (t.secs[3].feeder.cause, t.secs[3].feeder.openConfirm) = (.closeFail, some 200) := by decide +kernel

/-- An open confirmation of S5 with its feedback closed or open. -/
def confirming (closed : Bool) : State :=
  { ramp with
    secs := ramp.secs.set 4 { ramp.secs[4] with feeder := { ramp.secs[4].feeder with openConfirm := some 200 } }
    ifl := { ramp.ifl with breakers := ramp.ifl.breakers.set 4 ⟨none, none, closed⟩ } }

theorem test_open_confirmation :
    ((run (.openConfirmationExpiry 4) (confirming true)).secs[4].feeder.cause,
      (run (.openConfirmationExpiry 4) (confirming false)).secs[4].feeder) =
      (.breakerStuck, ⟨.tripped (some 4800) false, .overcurrent, none, 0, none⟩) := by decide +kernel

theorem test_reclose : (run (.recloseTimerExpiry 4) { ramp with source := none, secs := ramp.secs.set 2 (sec 1200 1850 .dead .stop) }).phase 4
    = .testing true [] 5050 5000 := by decide +kernel

theorem test_thermal_wait :
    let x := { sec 2400 3000 (.tripped (some 5000) false) .thermal with prot := { Prot.reset with heat := 200000000 } }
    let s := { ramp with secs := ramp.secs.set 4 x }
    (run (.recloseTimerExpiry 4) s).phase 4 = .tripped none true := by decide +kernel

theorem test_trip_window :
    let x := { ramp.secs[4] with feeder := { ramp.secs[4].feeder with tripCount := 2, tripWindow := some 40000 } }
    let s := { ramp with secs := ramp.secs.set 4 x }
    (run (.tripWindowExpiry 4) s).secs[4].feeder.tripCount = 0 := by decide +kernel

/-! ### Feeder Protection (worked cases of chapter 8) -/

/-- The heat increment of the worked thermal case is 410,440, and that of a dead feeder −900,000. -/
theorem test_heat_increment : (heatIncrement 3620 3000 100, heatIncrement 0 3000 100) = (410440, -900000) := by decide

/-- Scan 975 of the worked thermal case sets the account to its limit and trips the section. -/
theorem test_thermal_trip :
    let s := { ramp with
        secs := ramp.secs.set 0 { ramp.secs[0] with prot := { Prot.reset with heat := 399768560 } }
        fprScans := [scanOf 975 0 [(4, 1448)]] }
    ((run .fprScanEvaluation s).secs[0].prot.heat, (run .fprScanEvaluation s).secs[0].feeder.cause) =
      (400000000, .thermal) := by decide +kernel

/-- The sag trims of the sagging section. -/
theorem test_sag : ([1880, 1870, 1950, 1890, 1860, 1850, 2000, 2010].foldl
    (fun (ks : List Nat) v => sagAfter (ks.headD 8) v 1900 :: ks) []).reverse = [7, 6, 6, 5, 4, 4, 5, 6] := by decide

/-! ### Alerts (worked sequence of chapter 10) -/

/-- The list before the first ATTEND of the worked sequence: S4 is masked. -/
def alertList : State :=
  let s := run (.maskSection (hd 4) 4 1) .reset
  let s := { s with cycleNo := 900 }.raiseAlert .sag (some 3) none
  let s := { s with cycleNo := 902 }.raiseAlert .trip (some 2) none
  let s := { s with cycleNo := 903 }.raiseAlert .gapOverrun (some 2) (some 517)
  s.raiseAlert .gapOverrun (some 3) (some 517)

theorem test_attend : lastReply (run (.attend (hd 2)) alertList)
    = some (.attend (some ⟨.gapOverrun, some 2, 903, some 517, none⟩) 3 1) := by decide +kernel

theorem test_ack : lastReply (run (.ackAlert (hd 2))
      ({ run (.attend (hd 2)) alertList with cycleNo := 905 }.raiseAlert .gapOverrun (some 2) (some 610)))
    = some (.ackAlert .gapOverrun (some 2) true 4 2) := by decide +kernel

theorem test_mask : lastReply (run (.maskSection (hd 4) 3 1) alertList) = some (.maskSection 2 true 4 0) := by decide +kernel

theorem test_mask_zero : lastReply (run (.maskSection (hd 4) 0 1) alertList) = some (.reject .range 0) := by decide +kernel

/-! ### Trucks -/

theorem test_enrol :
    let t := run (.enrol (hd 9) ⟨517, 0, 0, 1500, 0⟩) ramp
    (lastReply t, (t.truck? 0).map (·.sec)) = (some (.slot 0), some (some 2)) := by decide +kernel

theorem test_enrol_beyond_top : lastReply (run (.enrol (hd 9) ⟨517, 0, 0, 3600, 0⟩) ramp) = some (.reject .geometry 0) := by
  decide +kernel

/-- The arc increments of R22. -/
theorem test_arc_increment : (arcIncrement 250 3, arcIncrement 200 0, arcIncrement 7 7) = (9, 32, 0) := by decide

/-- A REPORT for a truck of the yard: position, pantograph, current and demand. -/
def reporting (tag pos panto current demand : Nat) : Instr :=
  .report (hd 15) ⟨BitVec.ofNat 16 tag, BitVec.ofNat 16 pos, 0, 0, 0, BitVec.ofNat 8 panto, BitVec.ofNat 16 current,
    BitVec.ofNat 16 demand, 0⟩

/-- 90 A confirms a SHEDDING truck (worked crossing). -/
theorem test_report_confirms : ((run (reporting 104 615 1 90 600) yard).truck? 4).map (·.contact) = some (.crossing 0) := by
  decide +kernel

/-- A lower demand cuts the grant (worked sequence of chapter 11). -/
theorem test_report_cuts : lastReply (run (reporting 103 300 1 450 311) yard) = some (.report 3 .onWire 320) := by
  decide +kernel

theorem test_raise_waits : lastReply (run (.raise (hd 4) 100) yard) = some (.raise 0 false) := by decide +kernel

theorem test_depart : (run (.depart (hd 4) 101) yard).roster[1] = .releasePending := by decide +kernel

theorem test_raise_window :
    ((run (.raiseWindowExpiry 2) yard).truck? 2).map (fun t => (t.contact, t.age)) = some (.enrolled, 5000) := by
  decide +kernel

theorem test_lower_window :
    let t := run (.lowerWindowExpiry 7) yard
    ((t.truck? 7).map (·.contact), t.alt.pending.map (·.kind)) = (some (.lowering none), [.contactStuck]) := by decide +kernel

/-- The shed deadline's expiry lowers the truck; the draw sum falls, and the return grants fall to it. -/
theorem test_shed_deadline :
    let t := run (.shedDeadlineExpiry 4) yard
    ((t.truck? 4).map (·.contact), (t.truck? 8).map (·.grant)) = (some (.lowering (some 5000)), some 540) := by decide +kernel

theorem test_stale_point :
    ((run (.stalePointPassed 3) yard).truck? 3).map (fun t => (t.stale, t.grant, t.age)) = some (true, 0, 2001) := by
  decide +kernel

theorem test_stale_lower :
    let t := run (.staleLower 3) yard
    ((t.truck? 3).map (·.contact), (t.truck? 8).map (·.grant)) = (some (.lowering (some 5000)), some 520) := by decide +kernel

theorem test_idle_release :
    let t := run (.idleRelease 1) yard
    (t.roster[1], t.secs[0].queue) = (.releasePending, []) := by decide +kernel

theorem test_arc_decay : ((run (.arcTallyDecay 3) (yard.modTruck 3 fun t => { t with arc := 5 })).truck? 3).map
    (fun t => (t.arc, t.decayTimer)) = some (4, 2000) := by decide +kernel

theorem test_raise_bar : ((run (.raiseBarExpiry 0) (yard.modTruck 0 fun t => { t with bar := some 60000 })).truck? 0).map
    (·.bar) = some none := by decide +kernel

theorem test_query_truck : lastReply (run (.queryTruck (hd 4) 999) yard) = some (.reject .unknownTruck 0) := by decide +kernel

theorem test_query_queue :
    lastReply (run (.queryQueue (hd 3) 1) yard)
    = some (.queryQueue 0 .live 5 4 [⟨1, 101, .loaded, .climb, 10, false, true⟩] 0) := by decide +kernel

theorem test_query_section :
    lastReply (run (.querySection (hd 3) 7) yard) = some (.reject .range 0) := by decide +kernel

theorem test_self_check : lastReply (run (.selfCheck (hd 2)) .reset)
    = some (.selfCheck 0 0 0 0 1 .r115200 false 0) := by decide +kernel

/-! ### Gap sensors (worked crossing) -/

/-- Slots 5 at 1,199 m CROSSING and 9 at 1,236 m LOWERING, both within reach of gap 2. -/
def crossing : State :=
  place [(5, { truck 5 1199 (some 1) (.crossing 1) with grant := 100, demand := 1500, current := 60 }),
    (9, { truck 9 1236 (some 2) (.lowering (some 5000)) with dir := .descend, panto := .down })]
    { ramp with secs := ramp.secs.set 1 (sec 640 1200 .live .closed) }

/-- A state with a gap's sensor at active. -/
def sensed (g : GapIx) (s : State) : State := { s with ifl := s.ifl.put (.gap g true) }

theorem test_activation : (run (.gapSensorActivation 1) crossing).seen[1] = some 5 := by decide +kernel

/-- A sensor that stood at active when its gap came into being: an activation without a change is not seen (R3). -/
theorem test_standing_level :
    let s := run (configure 2 640 1200 3000 4200 5000) { sensed 0 (run (configure 1 0 640 3000 4200 5000) .reset) with link := .reset }
    (s.gapExists 0, (run (.gapSensorActivation 0) s).alt.pending) = (true, []) := by decide +kernel

theorem test_deactivation :
    let t := runAll [.gapSensorActivation 1, .gapSensorDeactivation 1] crossing
    ((t.truck? 5).map (fun x => (x.sec, x.est, x.grant, x.contact)), t.seen[1]) =
      (some (some 2, 1200, 0, .held .onWire 0), none) := by decide +kernel

/-! ### The budget cycle (worked case of chapter 6) -/

/-- S3 with its five trucks before cycle 7,312, the first cycle of its live period at these inputs. -/
def before7312 : State :=
  place [(2, { truck 202 1822 (some 2) (.shedding 2 1500) with demand := 1800, current := 140, grant := 100 }),
    (5, { truck 205 1460 (some 2) .onWire with demand := 1600, current := 1290, grant := 1300 }),
    (11, { truck 211 1250 (some 2) .onWire with demand := 1500, current := 1000, grant := 1000 }),
    (9, { truck 209 1300 (some 2) .onWire with cls := .empty, demand := 900, current := 590, grant := 600 }),
    (7, { truck 207 1600 (some 2) .onWire with dir := .descend, demand := 800, speed := 30, rem := 8000 })]
    { ramp with
      secs := ramp.secs.set 2 { sec 1200 1850 .live .closed with budget := ⟨2000, 7311, 4, 1⟩ }
      source := none
      cycleNo := 7311
      bgeScans := [scanOf 1 0 [(11, 2480)]] }

theorem test_cycle_ceiling :
    (run .budgetCycleInputs before7312).cycle.map (fun c => (c.outs[2], c.grants[5], c.grants[11], c.grants[9], c.grants[7])) =
      some (some ⟨3108, true, false⟩, some 1550, some 1400, some 0, some 400) := by decide +kernel

theorem test_cycle_published :
    let t := runAll [.budgetCycleInputs, .budgetCyclePublication] before7312
    (t.secs[2].budget, t.link.tx, t.link.notices, (t.truck? 7).map fun x => (x.est, x.rem)) =
      (⟨3108, 7312, 5, 1⟩, .notice (.grant 5 205 1550 .climb 7312) false,
        [.grant 7 207 400 .descend 7312, .grant 9 209 0 .climb 7312, .grant 11 211 1400 .climb 7312],
        some (1599, 1000)) := by
  decide +kernel

/-- The ties of slots 3, 8 and 12 go round with the pointer. -/
theorem test_ties :
    let cs : List Claim := [⟨3, 40, 0⟩, ⟨8, 40, 0⟩, ⟨12, 40, 0⟩]
    (cs.map (splitTarget 100 8 cs), cs.map (splitTarget 100 9 cs), cs.map (splitTarget 100 13 cs)) =
      ([33, 34, 33], [33, 33, 34], [34, 33, 33]) := by decide

/-- The worked meter: 4,294,900,000 and 129,000 wrap to 61,704. -/
theorem test_meter : addCharge 4294900000 0 129000 = (61704, 1) := by decide

/-- The worked descent to the lower end. -/
theorem test_dead_reckoning :
    (moved 1800 7000 3500 .climb, moved 1 8000 6000 .descend, moved 0 4000 6000 .descend) =
      ((1801, 500), (0, 4000), (0, 0)) := by decide

/-! ### The Control Link -/

theorem test_unknown_kind : lastReply (run (.unknownKindRequest ⟨9, 4⟩ 0x44) .reset) = some (.reject .unknownKind 0) := by
  decide +kernel

theorem test_malformed : lastReply (run (.scan ⟨9, 3⟩) .reset) = some (.reject .malformed 0) := by decide +kernel

theorem test_full_buffer : (runAll (List.replicate 5 (.selfCheck (hd 2))) .reset).link.inbound.length = 4 := by decide +kernel

theorem test_discarded : (run (.frameDiscarded .badLength) { State.reset with link := { Link.reset with rx := .length } }).link.rx
    = .hunting := by decide +kernel

theorem test_buffer_full : (run .frameBufferFull { State.reset with link := { Link.reset with rx := .rest 1 [] } }).link.rx
    = .hunting := by decide +kernel

theorem test_inter_byte : ((run (.linkInterByteTimeout 0xA5) .reset).link.rx, (run (.linkInterByteTimeout 0x5A) .reset).link.rx)
    = (.length, .hunting) := by decide +kernel

theorem test_frame_end :
    let t := run .transmitFrameEnd { yard with
      roster := yard.roster.set 9 .releasePending
      link := { Link.reset with tx := .notice (.released 9 900 0 0 0 0 4) false, notices := [.grant 3 103 500 .climb 4] } }
    (t.roster[9], t.link.tx, t.link.notices) = (.free, .notice (.grant 3 103 500 .climb 4) false, []) := by decide +kernel

theorem test_restart :
    let t := run (.restart (hd 2)) yard
    (t.phase 0, t.phase 5, t.source, t.alt.pending.map (·.kind), t.roster[3]) = (.dead, .lockedOut, none, [.lockout], .free) := by
  decide +kernel

theorem test_reset : ((run (.reset true false) yard).link.rate, (run (.reset true false) yard).phase 0) = (.r230400, .unset) := by
  decide +kernel

/-! ### Steps -/

/-- With no command waiting, a tick passes; an expiry that has fallen due is taken first (notes/assumptions/5.md). -/
theorem test_idle_tick : (match step State.reset with | .next t => t.now | _ => 0) = 1 := by decide +kernel

theorem test_idle_due :
    (match step { State.reset with smp := { Sampler.reset with timer := some 0 } } with | .next t => t.smp.inFlight | _ => none)
    = some 0 := by decide +kernel

/-- The table gives no bits, so no word spells a command. -/
theorem test_no_bits : decodeTableWord 16 0x2204 = none := by decide

/-! ### Witnesses: states and operands that meet an obligation's hypotheses -/

/-- The admission queues are kept, from a test of each queue and slot. -/
theorem queues_of {s : State}
    (h : ∀ k : SecIx, s.secs[k].queue.length ≤ Config.queueSize ∧ (s.secs[k].queue.map (·.slot)).Nodup)
    (w : ∀ (k : SecIx) (i : SlotIx), i ∈ s.secs[k].queue.map (·.slot) ↔
      ((s.truck? i).any fun t => decide (t.contact = .waiting ∧ t.sec = some k)) = true) : s.QueuesKept := by
  intro k
  refine ⟨(h k).1, (h k).2, fun i => (w k i).trans ?_⟩
  cases s.truck? i <;> simp

/-- Four requests wait. -/
def full : State := runAll (List.replicate 4 (.selfCheck (hd 2))) .reset

theorem witness_RequestBodiesReadBack :
    (formOf (reporting 103 300 1 450 310) = some (hd 15, 0x21, 15) ∧ (hd 15).bodyLen = 15)
    ∧ formOf (.scan (hd 2)) = some (hd 2, 0x04, 2) ∧ requestKinds.contains (0x44 : Byte) = false
    ∧ 2 ≤ (⟨1, 2⟩ : ReqHdr).bodyLen := by decide

theorem witness_FramesAreReceivedByTheirCheck :
    2 ≤ ([0x12, 9] : List Byte).length ∧ (List.replicate 60 (0xA5 : Byte)).length ≤ 60 := by decide

theorem witness_LostFramesChangeTheReceiverAlone :
    (full.LineBusy ∧ (Instr.scan (hd 2)).hdr? = some (hd 2) ∧ full.link.inbound.length = 4)
    ∧ State.reset.LineBusy ∧ (Instr.unknownKindRequest ⟨1, 61⟩ 0x44).hdr? = some ⟨1, 61⟩
    ∧ (⟨1, 61⟩ : ReqHdr).inFrame = false ∧ (⟨1, 1⟩ : ReqHdr).inFrame = false := by
  unfold State.LineBusy; decide +kernel

theorem witness_MalformedAndUnknownAreRejected :
    formOf (.scan ⟨0, 2⟩) = some (⟨0, 2⟩, 0x04, 2) ∧ (⟨0, 2⟩ : ReqHdr).inFrame = true
    ∧ formOf (.scan ⟨1, 60⟩) = some (⟨1, 60⟩, 0x04, 2) ∧ (⟨1, 60⟩ : ReqHdr).inFrame = true ∧ (60 : Nat) ≠ 2
    ∧ ramp.link.inbound.length < 4 ∧ requestKinds.contains (0x44 : Byte) = false := by decide +kernel

/-- A RELEASED notice is being sent, and a GRANT notice waits. -/
def sending : State :=
  { yard with
    roster := yard.roster.set 9 .releasePending
    link := { Link.reset with tx := .notice (.released 9 900 0 0 0 0 4) false, notices := [.grant 3 103 500 .climb 4] } }

theorem witness_FrameEndSendsRepliesFirst :
    sending.link.tx ≠ .idle ∧ full.link.tx = .reply ∧ sending.roster[9] = .releasePending
    ∧ ∃ n, sending.link.tx = .notice n false ∧ n.key = .released 9 :=
  ⟨by decide +kernel, by decide +kernel, by decide +kernel, _, rfl, rfl⟩

theorem witness_NoticesReplaceInPlace :
    (sending.link.notices.map Notice.key).Nodup ∧ NoticeKey.grant 3 ∈ sending.link.notices.map Notice.key := by
  decide +kernel

theorem witness_EveryStepKeepsNoticeKeys :
    { sending with pending := [.transmitFrameEnd] }.NoticesKept
    ∧ ∃ t, step { sending with pending := [.transmitFrameEnd] } = .next t := by
  refine ⟨⟨by decide +kernel, by decide +kernel, ?_⟩, next_of (by decide +kernel)⟩
  intro n hn i hi
  have e : Tx.notice (.released 9 900 0 0 0 0 4) false = .notice n false := hn
  cases e
  have e : NoticeKey.released 9 = .released i := hi
  cases e
  exact ⟨by decide +kernel, by decide +kernel⟩

theorem witness_EveryStepKeepsTheLineBusy :
    { full with pending := [.transmitFrameEnd] }.LineBusy
    ∧ ∃ t, step { full with pending := [.transmitFrameEnd] } = .next t :=
  ⟨by unfold State.LineBusy; decide +kernel, next_of (by decide +kernel)⟩

theorem witness_QueriesChangeNothing :
    Taken (hd 3) 3 yard ∧ secOf 1 = some 0 ∧ secOf 6 = some 5 ∧ Taken (hd 4) 4 yard ∧ yard.slotOf (103 : Half).toNat = some 3
    ∧ (yard.truck? 3).isSome = true ∧ Taken (hd 2) 2 yard := by
  unfold Taken; decide +kernel

theorem ramp_source : ramp.SourceKept := by unfold State.SourceKept; decide +kernel

theorem yard_source : yard.SourceKept := by unfold State.SourceKept; decide +kernel

theorem witness_RestartEmptiesAndKeeps : Taken (hd 2) 2 yard ∧ yard.SourceKept :=
  ⟨by unfold Taken; decide +kernel, yard_source⟩

/-- The list of the worked sequence with GAP-OVERRUN of S3 in attendance. -/
def attending : State := { run (.attend (hd 2)) alertList with link := .reset }

theorem witness_RaisingActsByWhereThePairStands :
    (AlertKind.stop, none) ∉ attending.alt.pending.map Alert.pair
    ∧ (AlertKind.trip, some 2) ∈ attending.alt.pending.map Alert.pair
    ∧ (attending.alt.attended.map Alert.pair) = some (.gapOverrun, some 2) := by decide +kernel

theorem witness_AttendFetchesTheBestAlert :
    Taken (hd 2) 2 alertList ∧ (alertList.alt.attended = none ∧ alertList.alt.unmasked ≠ [])
    ∧ Taken (hd 2) 2 attending ∧ attending.alt.attended.isSome = true
    ∧ (State.reset.alt.attended = none ∧ State.reset.alt.unmasked = []) := by
  unfold Taken; decide +kernel

theorem witness_AcknowledgingReturnsARecurrence :
    Taken (hd 2) 2 attending ∧ attending.alt.attended.map (·.recur) = some none
    ∧ (attending.raiseAlert .gapOverrun (some 2) (some 610)).alt.attended.map (·.recur) = some (some (903, some 610))
    ∧ Taken (hd 2) 2 alertList ∧ alertList.alt.attended = none := by
  unfold Taken; decide +kernel

theorem witness_MasksHidePendingAlerts :
    Taken (hd 4) 4 alertList ∧ (1 : Byte).toNat = (0 : SecIx).val + 1 ∧ (6 : Byte).toNat = (5 : SecIx).val + 1
    ∧ (1 : Byte).toNat = (if true then 1 else 0) ∧ (0 : Byte).toNat = (if false then 1 else 0)
    ∧ (0 : Byte).toNat = 0 ∧ 6 < (7 : Byte).toNat ∧ 1 < (2 : Byte).toNat := by
  unfold Taken; decide +kernel

theorem witness_EveryStepKeepsAlertPairs :
    { attending with pending := [.stopActivation] }.AlertsKept
    ∧ ∃ t, step { attending with pending := [.stopActivation] } = .next t := by
  refine ⟨⟨by decide +kernel, ?_, ?_⟩, next_of (by decide +kernel)⟩
  · intro a ha
    have e : a ∈ [Alert.mk .sag (some 3) 900 none none, ⟨.trip, some 2, 902, none, none⟩,
        ⟨.gapOverrun, some 3, 903, some 517, none⟩] := by
      have : attending.alt.pending = [Alert.mk .sag (some 3) 900 none none, ⟨.trip, some 2, 902, none, none⟩,
        ⟨.gapOverrun, some 3, 903, some 517, none⟩] := by decide +kernel
      rw [← this]; exact ha
    simp only [List.mem_cons, List.not_mem_nil, or_false] at e
    rcases e with rfl | rfl | rfl <;> simp [Alert.Lawful, AlertKind.fits, AlertKind.tagged]
  · intro a ha
    have e : attending.alt.attended = some ⟨.gapOverrun, some 2, 903, some 517, none⟩ := by decide +kernel
    have e' : some (Alert.mk .gapOverrun (some 2) 903 (some 517) none) = some a := e.symm.trans ha
    cases e'
    exact ⟨by simp [Alert.Lawful, AlertKind.fits, AlertKind.tagged], by decide +kernel⟩

/-- The fields of the example's CONFIGURE-SECTION requests. -/
def fields (k lo up : Nat) : ConfigFields :=
  ⟨BitVec.ofNat 8 k, BitVec.ofNat 16 lo, BitVec.ofNat 16 up, BitVec.ofNat 16 lo, 3000, 4200, 5000, 400000000, 30, 3, 1200, 5⟩

theorem witness_ConfigureIsRefusedInOrder :
    Taken (hd 24) 24 yard ∧ secOf (fields 0 0 640).sec = none
    ∧ (secOf (fields 1 0 640).sec = some 0 ∧ (settingsOf (fields 1 0 99)).inRange = false)
    ∧ (settingsOf (fields 1 0 100)).inRange = true ∧ (settingsOf (fields 1 0 640)).inRange = true
    ∧ (yard.phase 0 ≠ .unset ∧ yard.phase 0 ≠ .dead)
    ∧ (yard.phase 1 = .dead ∧ (settingsOf (fields 2 650 1200)).inRange = true
        ∧ yard.fitsNeighbours 1 (settingsOf (fields 2 650 1200)) = false)
    ∧ (crossing.deEnergize 2).1.phase 1 = .dead
    ∧ (crossing.deEnergize 2).1.fitsNeighbours 1 { settingsOf (fields 2 640 1200) with feed := 700 } = true
    ∧ (crossing.deEnergize 2).1.mayMove 1 { settingsOf (fields 2 640 1200) with feed := 700 } = false := by
  unfold Taken; decide +kernel

/-- S6 has no settings, and its breaker feedback reads closed. -/
def closedUnset : State :=
  { yard with
    secs := yard.secs.set 5 Sec.reset
    ifl := { yard.ifl with breakers := yard.ifl.breakers.set 5 ⟨none, none, true⟩ } }

theorem witness_ConfigureReplacesTheSettings :
    (Taken (hd 24) 24 .reset ∧ secOf (fields 1 0 640).sec = some 0 ∧ (settingsOf (fields 1 0 640)).inRange = true
      ∧ State.reset.fitsNeighbours 0 (settingsOf (fields 1 0 640)) = true
      ∧ State.reset.mayMove 0 (settingsOf (fields 1 0 640)) = true
      ∧ State.reset.phase 0 = .unset ∧ State.reset.secs[0].settings = none ∧ State.reset.feedbackClosed 0 = false)
    ∧ (Taken (hd 24) 24 yard ∧ secOf (fields 2 640 1200).sec = some 1
      ∧ (settingsOf (fields 2 640 1200)).inRange = true ∧ yard.fitsNeighbours 1 (settingsOf (fields 2 640 1200)) = true
      ∧ yard.mayMove 1 (settingsOf (fields 2 640 1200)) = true ∧ yard.phase 1 = .dead ∧ yard.secs[1].settings ≠ none)
    ∧ (Taken (hd 24) 24 closedUnset ∧ secOf (fields 6 3000 3600).sec = some 5
      ∧ closedUnset.fitsNeighbours 5 (settingsOf (fields 6 3000 3600)) = true
      ∧ closedUnset.mayMove 5 (settingsOf (fields 6 3000 3600)) = true ∧ closedUnset.phase 5 = .unset
      ∧ closedUnset.secs[5].settings = none ∧ closedUnset.feedbackClosed 5 = true)
    ∧ closedUnset.SourceKept
    ∧ closedUnset.isLive 0 = true ∧ (closedUnset.truck? 3).map (fun r => (r.sec, r.contact.prior)) = some (some 0, some .onWire)
    ∧ (run (.configureSection (hd 24) (fields 6 3000 3600)) closedUnset).sectionOf 300 = some 0 := by
  refine ⟨?_, ?_, ?_, ?_, ?_⟩
  · unfold Taken; decide +kernel
  · unfold Taken; decide +kernel
  · unfold Taken; decide +kernel
  · unfold State.SourceKept; decide +kernel
  · decide +kernel

/-- The fields of SET-LIMITS with the defaults but for C. -/
def limitFields (vMax c : Nat) : LimitFields :=
  ⟨1900, BitVec.ofNat 16 vMax, BitVec.ofNat 16 c, 40, 10, 1500, 5000, 5000, 2000, 400, 300, 10, 30, 60, 6, 60⟩

/-- The defaults but for an overrun margin of 5 m and an approach zone of 200 m. -/
def widened : LimitFields := { limitFields 3000 100 with z := 200, e := 5 }

/-- The truck of slot 5 still CROSSING, at 645 m in S2, which is LIVE. -/
def straddling : State :=
  { yard.modTruck 5 fun t => { t with est := 645 } with secs := yard.secs.set 1 (sec 640 1200 .live .closed) }

theorem witness_SetLimitsCutsPassingTrucksToC :
    (Taken (hd 28) 28 yard ∧ (limitsOf (limitFields 2090 60)).inRange = false
      ∧ (limitsOf (limitFields 3000 60)).inRange = true ∧ (limitsOf (limitFields 3000 60)).z = yard.limits.z
      ∧ (limitsOf (limitFields 3000 60)).e = yard.limits.e
      ∧ (yard.truck? 5).map (fun r => (r.contact.passing, decide (60 < r.grant))) = some (true, true))
    ∧ (limitsOf widened).inRange = true ∧ (limitsOf widened).z ≠ yard.limits.z
    ∧ (yard.truck? 3).map (fun r => (r.contact, decide (r.age < 3 * r.stalePoint))) = some (.onWire, true)
    ∧ (yard.truck? 5).map (fun r => (r.contact, decide (yard.gapPos 0 + (limitsOf widened).e ≤ r.est))) =
        some (.crossing 0, false)
    ∧ (straddling.truck? 5).map (fun r => (r.contact, decide (straddling.gapPos 0 + (limitsOf widened).e ≤ r.est))) =
        some (.crossing 0, true) := by
  unfold Taken; decide +kernel

theorem witness_SetCadenceTakesModeAndPeriod :
    Taken (hd 5) 5 single ∧ 2 < (3 : Byte).toNat ∧ (19 : Half).toNat < 20 ∧ 500 < (510 : Half).toNat ∧ ¬ 10 ∣ (45 : Half).toNat
    ∧ (1 : Byte).toNat = Cadence.periodic.code ∧ 20 ≤ (20 : Half).toNat ∧ (500 : Half).toNat ≤ 500 ∧ 10 ∣ (500 : Half).toNat := by
  unfold Taken; decide +kernel

theorem witness_ScansAreTriggered :
    (Taken (hd 2) 2 .reset ∧ State.reset.smp.mode ≠ .single) ∧ (Taken (hd 2) 2 single ∧ single.smp.mode = .single
      ∧ single.smp.inFlight = none) ∧ (run (.scan (hd 2)) single).smp.inFlight ≠ none
    ∧ State.LineBusy { State.reset with smp := { Sampler.reset with mode := .periodic, timer := some 30 } } := by
  unfold Taken State.LineBusy; decide +kernel

theorem witness_CompletedScansArePublished :
    (flying 0 50 1).smp.inFlight = some 50 ∧ goodScan (codes [(0, 2028)]) = true ∧ goodScan (codes [(0, 2068)]) = true
    ∧ goodScan (codes [(0, 2027)]) = false ∧ goodScan (codes [(0, 2069)]) = false ∧ (flying 0 50 1).smp.badRun ≠ 2
    ∧ (flying 0 50 1).LineBusy := by
  unfold State.LineBusy; decide +kernel

theorem witness_ThirdBadScanCutsEveryGrant :
    (flying 0 50 2).smp.inFlight = some 50 ∧ goodScan (codes [(0, 2069)]) = false ∧ (flying 0 50 2).smp.badRun = 2 := by
  decide +kernel

theorem witness_TwoEqualSamplesPassTheFilter : yard.LineBusy := by unfold State.LineBusy; decide +kernel

theorem witness_StopTakesEverySectionDown : yard.SourceKept ∧ yard.isLive 0 = true ∧ (yard.phase 5).active = false
    ∧ (yard.truck? 3).map (fun r => (r.sec, r.contact.prior)) = some (some 0, some .onWire)
    ∧ yard.LineBusy ∧ Change.stop false ∉ yard.ifl.handed
    ∧ Change.stop false ∈ { yard with ifl := { yard.ifl with handed := [.stop false] } }.ifl.handed :=
  ⟨yard_source, by decide +kernel, by decide +kernel, by decide +kernel, by unfold State.LineBusy; decide +kernel,
    by decide +kernel, by decide +kernel⟩

theorem witness_EnergizeAsksForTheTestSource :
    Taken (hd 4) 4 ramp ∧ 6 < (7 : Byte).toNat ∧ 1 < (2 : Byte).toNat ∧ (6 : Byte).toNat = (5 : SecIx).val + 1
    ∧ ramp.phase 5 ≠ .dead ∧ (2 : Byte).toNat = (1 : SecIx).val + 1 ∧ (1 : Byte).toNat = (if true then 1 else 0)
    ∧ ramp.phase 1 = .dead ∧ ramp.secs[1].feeder.openConfirm = none ∧ ramp.stopActive = false ∧ ramp.busTrip = false
    ∧ ramp.source ≠ none ∧ (run (.testTimeout 2) ramp).source = none
    ∧ (run (.deEnergize (hd 3) 1) yard).secs[0].feeder.openConfirm ≠ none
    ∧ (run .stopActivation ramp).stopActive = true ∧ (run (.breakerFeedbackClosed 1) yard).busTrip = true := by
  unfold Taken; decide +kernel

theorem witness_DeEnergizeTakesASectionDown :
    (Taken (hd 3) 3 yard ∧ (0 : Byte).toNat = 0 ∧ (1 : Byte).toNat = (0 : SecIx).val + 1
      ∧ yard.phase 1 = .dead ∧ yard.phase 5 = .lockedOut ∧ yard.phase 0 ≠ .unset ∧ yard.phase 0 ≠ .dead
      ∧ yard.phase 0 ≠ .lockedOut ∧ yard.phase 2 ≠ .dead) ∧ yard.SourceKept
    ∧ Taken (hd 3) 3 straddling ∧ straddling.SourceKept :=
  ⟨by unfold Taken; decide +kernel, yard_source, by unfold Taken; decide +kernel,
    by unfold State.SourceKept; decide +kernel⟩

/-- The clauses of what holding a section's trucks does with one that stands in another section: that section LIVE, not LIVE,
and none. -/
theorem witness_HeldAcross :
    ((straddling.truck? 5).map (fun r => (r.sec, r.contact, straddling.sectionOf r.est, decide (r.age < 3 * r.stalePoint))) =
        some (some 0, .crossing 0, some 1, true) ∧ straddling.isLive 1 = true)
    ∧ (let s := yard.modTruck 5 fun t => { t with est := 640 }
       (s.truck? 5).map (fun r => (r.sec, r.contact.prior, s.sectionOf r.est)) = some (some 0, some .crossing, some 1)
        ∧ s.isLive 1 = false)
    ∧ (let s := yard.modTruck 5 fun t => { t with est := 3600 }
       (s.truck? 5).map (fun r => (r.contact.prior, s.sectionOf r.est)) = some (some .crossing, none)) := by decide +kernel

/-- S2's breaker has been found stuck. -/
def stuck : State := { run (.breakerFeedbackClosed 1) yard with link := .reset }

theorem witness_ClearLockoutMayDeassertBusTrip :
    Taken (hd 3) 3 yard ∧ (6 : Byte).toNat = (5 : SecIx).val + 1 ∧ yard.phase 5 = .lockedOut
    ∧ yard.feedbackClosed 5 = false ∧ yard.busTrip = false ∧ yard.phase 0 ≠ .lockedOut
    ∧ Taken (hd 3) 3 stuck ∧ stuck.busTrip = true ∧ stuck.secs[5].feeder.cause ≠ .breakerStuck
    ∧ stuck.phase 1 = .lockedOut ∧ stuck.secs[1].feeder.cause = .breakerStuck ∧ stuck.feedbackClosed 1 = true := by
  unfold Taken; decide +kernel

theorem witness_EveryStepKeepsTheTestSource :
    { yard with pending := [.testTimeout 2] }.SourceKept ∧ ∃ t, step { yard with pending := [.testTimeout 2] } = .next t :=
  ⟨by unfold State.SourceKept; decide +kernel, next_of (by decide +kernel)⟩

/-- The same, with a command waiting. -/
def stuckNext : State := { stuck with pending := [.breakerFeedbackOpen 1] }

/-- The invariant of the feeder values from the tests of its clauses, for any state. -/
theorem values_of {s : State}
    (h1 : ∀ k : SecIx, (s.phase k = .unset ↔ s.secs[k].settings = none)
      ∧ Config.sagFloor ≤ s.secs[k].prot.sag ∧ s.secs[k].prot.sag ≤ Config.sagFull
      ∧ s.secs[k].prot.highRun ≤ Config.unaccPersistence ∧ s.secs[k].prot.lowRun ≤ Config.unaccPersistence
      ∧ (s.secs[k].prot.unaccounted = false → s.secs[k].prot.deduction = 0)
      ∧ s.secs[k].feeder.tripCount ≤ Config.tripLimit)
    (h2 : ∀ k : SecIx, (s.secs[k].settings).all (fun c => decide (s.secs[k].prot.heat ≤ c.heatLimit)) = true) :
    s.ValuesKept := by
  intro k
  obtain ⟨a, b, c, d, e, f, g⟩ := h1 k
  exact ⟨a, b, c, d, e, f, g, fun _ hc => of_decide_eq_true (of_all (h2 k) hc)⟩

theorem witness_EveryStepKeepsFeederValues :
    stuckNext.SourceKept ∧ stuckNext.BusTripKept ∧ stuckNext.ValuesKept ∧ ∃ t, step stuckNext = .next t :=
  ⟨by unfold State.SourceKept; decide +kernel, by unfold State.BusTripKept; decide +kernel,
    values_of (by decide +kernel) (by decide +kernel), next_of (by decide +kernel)⟩

theorem witness_ScansDriveTheSequencer :
    { yard with fsqScans := [scanOf 1 100 []] }.SourceKept ∧ yard.phase 2 = .testing false [800, 777] 70 5000
    ∧ yard.phase 3 = .precharge 0 2000 ∧ yard.phase 4 = .tripped (some 5000) false ∧ yard.phase 5 = .lockedOut
    ∧ (scanOf 1 100 [(3, 0)]).codes[(3 : Fin 22)] = 0 ∧ (scanOf 1 100 [(3, 1)]).codes[(3 : Fin 22)] ≠ 0
    ∧ (14 : Fin 22).val = 5 + 3 * (3 : SecIx).val ∧ 777 ≤ 800 ∧ 800 ≤ 825 ∧ yard.secs[4].settings = some (settings 2400 3000) :=
  ⟨by unfold State.SourceKept; decide +kernel, by decide +kernel, by decide +kernel, by decide +kernel, by decide +kernel,
    by decide +kernel, by decide +kernel, by decide, by decide, by decide, by decide +kernel⟩

theorem witness_ClosingFeedbackMakesLiveOrStuck :
    ((∃ w, { yard with secs := yard.secs.set 3 (sec 1850 2400 (.closing 137) .precharged) }.phase 3 = .closing w)
      ∧ (∃ w, { yard with secs := yard.secs.set 4 (sec 2400 3000 (.closing 137) .precharged) }.phase 4 = .closing w)
      ∧ (yard.truck? 6).map (fun r => (r.sec, r.contact)) = some (some 4, .held .onWire 700))
    ∧ (yard.SourceKept ∧ yard.phase 1 ≠ .unset ∧ yard.phase 1 ≠ .live ∧ (∀ w, yard.phase 1 ≠ .closing w)
      ∧ yard.secs[1].feeder.openConfirm = none ∧ ¬ (yard.phase 1 = .lockedOut ∧ yard.secs[1].feeder.cause = .breakerStuck)
      ∧ yard.isLive 0 = true)
    ∧ (stuck.phase 1 = .lockedOut ∧ stuck.secs[1].feeder.cause = .breakerStuck ∧ stuck.secs[1].feeder.openConfirm = none
      ∧ stuck.LineBusy)
    ∧ yard.phase 0 = .live ∧ State.reset.phase 0 = .unset ∧ yard.LineBusy := by
  have e : yard.phase 1 = .dead := by decide +kernel
  refine ⟨⟨⟨137, by decide +kernel⟩, ⟨137, by decide +kernel⟩, by decide +kernel⟩,
    ⟨yard_source, ?_, ?_, ?_, by decide +kernel, ?_, by decide +kernel⟩,
    ⟨by decide +kernel, by decide +kernel, by decide +kernel, by unfold State.LineBusy; decide +kernel⟩,
    by decide +kernel, by decide +kernel, by unfold State.LineBusy; decide +kernel⟩
  all_goals rw [e]
  all_goals simp

/-- S5 and S6 about to close, with HELD trucks of every prior state in and out of their zones, slot 14 a stale one. -/
def restoring : State :=
  place [(10, { truck 110 2600 (some 4) (.held .cleared 0) with panto := .down }),
    (11, truck 111 2980 (some 4) (.held .cleared 0)), (12, truck 112 2980 (some 4) (.held .shedding 100)),
    (13, truck 113 2980 (some 4) (.held .onWire 300)),
    (14, { truck 114 2500 (some 4) (.held .onWire 300) with age := 6000 }),
    (15, truck 115 3590 (some 5) (.held .crossing 300))]
    { yard with secs := (yard.secs.set 4 (sec 2400 3000 (.closing 137) .precharged)).set 5 (sec 3000 3600 (.closing 137) .precharged) }

theorem witness_ClosingFeedbackMakesLiveOrStuck_restored :
    (∃ w, restoring.phase 4 = .closing w) ∧ (∃ w, restoring.phase 5 = .closing w)
    ∧ [6, 10, 11, 12, 13, 14, 15].map (fun i => (restoring.truck? i).map fun r => (r.sec, r.contact)) =
      [some (some 4, .held .onWire 700), some (some 4, .held .cleared 0), some (some 4, .held .cleared 0),
       some (some 4, .held .shedding 100), some (some 4, .held .onWire 300), some (some 4, .held .onWire 300),
       some (some 5, .held .crossing 300)]
    ∧ [6, 10, 11, 12, 13, 14, 15].map (fun i => (restoring.truck? i).map fun r => (r.panto, decide (r.age < 3 * r.stalePoint))) =
      [some (.up, true), some (.down, true), some (.up, true), some (.up, true), some (.up, true), some (.up, false),
       some (.up, true)]
    ∧ [6, 10, 11, 12, 13, 14, 15].map (fun i => (restoring.truck? i).map fun r => restoring.zoneOf r) =
      [some (.approach 4, false), some (.approach 4, false), some (.approach 4, true), some (.approach 4, true),
       some (.approach 4, true), some (.approach 4, false), some (.topEnd, true)] :=
  ⟨⟨137, by decide +kernel⟩, ⟨137, by decide +kernel⟩, by decide +kernel, by decide +kernel, by decide +kernel⟩

theorem witness_OpeningFeedbackTripsALiveSection :
    yard.isLive 0 = true ∧ yard.SourceKept ∧ straddling.isLive 0 = true ∧ straddling.SourceKept ∧ yard.isLive 1 = false
    ∧ yard.LineBusy :=
  ⟨by decide +kernel, yard_source, by decide +kernel, by unfold State.SourceKept; decide +kernel, by decide +kernel,
    by unfold State.LineBusy; decide +kernel⟩

theorem witness_TestTimeoutHandsTheSourceOver :
    yard.SourceKept ∧ yard.phase 2 = .testing false [800, 777] 70 5000 := ⟨yard_source, by decide +kernel⟩

theorem witness_FailedClosingLocksTheSectionOut :
    (yard.SourceKept ∧ yard.phase 3 = .precharge 0 2000)
    ∧ { yard with secs := yard.secs.set 3 (sec 1850 2400 (.closing 200) .precharged) }.SourceKept
    ∧ { yard with secs := yard.secs.set 3 (sec 1850 2400 (.closing 200) .precharged) }.phase 3 = .closing 200 :=
  ⟨⟨yard_source, by decide +kernel⟩, by unfold State.SourceKept; decide +kernel, by decide +kernel⟩

theorem witness_OpenConfirmationFindsAStuckBreaker :
    (confirming false).secs[4].feeder.openConfirm = some 200 ∧ (confirming false).feedbackClosed 4 = false
    ∧ (confirming true).secs[4].feeder.openConfirm = some 200 ∧ (confirming true).phase 4 ≠ .unset
    ∧ (confirming true).feedbackClosed 4 = true ∧ (confirming true).SourceKept ∧ (confirming true).isLive 0 = true
    ∧ ¬ ((confirming true).phase 4 = .lockedOut ∧ (confirming true).secs[4].feeder.cause = .breakerStuck)
    ∧ (let t := { (confirming true) with secs := (confirming true).secs.set 4 { (confirming true).secs[4] with
          feeder := ⟨.lockedOut, .breakerStuck, some 200, 0, none⟩ } }
       t.secs[4].feeder.openConfirm = some 200 ∧ t.phase 4 = .lockedOut ∧ t.secs[4].feeder.cause = .breakerStuck
        ∧ t.feedbackClosed 4 = true) := by
  unfold State.SourceKept; decide +kernel

/-- S5 has tripped THERMAL, its heat account at its warm level. -/
def warmTrip : State :=
  let x := { sec 2400 3000 (.tripped (some 5000) false) .thermal with prot := { Prot.reset with heat := 200000000 } }
  { ramp with secs := ramp.secs.set 4 x }

theorem witness_RecloseAsksOrWaitsWarm :
    warmTrip.phase 4 = .tripped (some 5000) false ∧ warmTrip.secs[4].feeder.cause = .thermal
    ∧ warmTrip.secs[4].warm = true ∧ warmTrip.LineBusy ∧ ramp.phase 4 = .tripped (some 5000) false
    ∧ ramp.secs[4].feeder.cause ≠ .thermal
    ∧ (run (.breakerFeedbackOpen 0) yard).secs[0].feeder.tripWindow = some 60000 := by
  unfold State.LineBusy; decide +kernel

/-- A scan of 3,620 A in S1, taken and not yet evaluated. -/
def scanned (current : Nat) : State := { yard with fprScans := [scanOf 975 0 [(4, current)]] }

theorem witness_HeatAccountFollowsTheCurrent :
    (scanned 1448).fprScans = [scanOf 975 0 [(4, 1448)]] ∧ (scanned 1448).secs[0].settings = some (settings 0 640) := by
  decide +kernel

theorem witness_OvercurrentTripsBeforeHeat :
    ((scanned 2000).fprScans = [scanOf 975 0 [(4, 2000)]] ∧ (scanned 2000).secs[0].settings = some (settings 0 640)
      ∧ (scanned 2000).isLive 0 = true ∧ (settings 0 640).trip ≤ (scanOf 975 0 [(4, 2000)]).feederCurrent 0
      ∧ (scanOf 975 0 [(4, 1999)]).feederCurrent 0 < (settings 0 640).trip
      ∧ (settings 0 640).f / 10 < (scanOf 975 0 [(4, 1999)]).feederCurrent 0 / 10
      ∧ 10 ≤ (scanOf 975 0 [(4, 1999)]).delta ∧ (scanned 2000).isLive 1 = false) ∧ (scanned 2000).SourceKept :=
  ⟨by decide +kernel, by unfold State.SourceKept; decide +kernel⟩

theorem scanned_source (n : Nat) : (scanned n).SourceKept := yard_source

theorem witness_SagTrimFollowsTheFarEnd :
    (scanned 100).SourceKept ∧ (scanned 100).fprScans = [scanOf 975 0 [(4, 100)]] ∧ (scanned 100).secs[0].settings = some (settings 0 640)
    ∧ (scanned 100).isLive 0 = true ∧ (run .fprScanEvaluation (scanned 100)).isLive 0 = true
    ∧ (scanOf 975 0 [(6, 1899)]).farVoltage 0 < (scanned 100).limits.vMin
    ∧ (scanned 100).limits.vMin + 100 ≤ (scanOf 975 0 [(6, 2000)]).farVoltage 0
    ∧ (scanOf 975 0 [(6, 1999)]).farVoltage 0 < (scanned 100).limits.vMin + 100
    ∧ (scanned 2000).SourceKept ∧ (run .fprScanEvaluation (scanned 2000)).isLive 0 = false :=
  ⟨scanned_source 100, by decide +kernel, by decide +kernel, by decide +kernel, by decide +kernel, by decide +kernel,
    by decide +kernel, by decide +kernel, scanned_source 2000, by decide +kernel⟩

/-- S1 and S2 LIVE, with a scan that trips S1 by its current and not S2. -/
def halfTripped : State :=
  { yard with secs := yard.secs.set 1 (sec 640 1200 .live .closed), fprScans := [scanOf 975 0 [(4, 2000), (7, 100)]] }

/-- A LIVE section trips at a scan, as the statement about the unaccounted draw says it. -/
def tripsAt (r : ScanResult) (s t : State) (k : SecIx) : Bool :=
  s.isLive k && (s.secs[k].settings).any fun c => decide (c.trip ≤ r.feederCurrent k
    ∨ (c.f / 10 < r.feederCurrent k / 10 ∧ 10 ≤ r.delta ∧ t.secs[k].prot.heat = c.heatLimit))

/-- At 1,000 A and at 3,620 A, above F, no section trips; in the third state S1 trips, and S2 does not. -/
theorem witness_UnaccountedDrawIsDeducted :
    ((scanned 400).SourceKept ∧ (scanned 400).fprScans = [scanOf 975 0 [(4, 400)]] ∧ (scanned 400).LineBusy
      ∧ ∀ k : SecIx, tripsAt (scanOf 975 0 [(4, 400)]) (scanned 400) (run .fprScanEvaluation (scanned 400)) k = false)
    ∧ ((scanned 1448).SourceKept ∧ (scanned 1448).LineBusy ∧ (scanned 1448).isLive 0 = true
      ∧ ∀ k : SecIx, tripsAt (scanOf 975 0 [(4, 1448)]) (scanned 1448) (run .fprScanEvaluation (scanned 1448)) k = false)
    ∧ (let r := scanOf 975 0 [(4, 2000), (7, 100)]
       let t := run .fprScanEvaluation halfTripped
       halfTripped.SourceKept ∧ halfTripped.fprScans = [r] ∧ halfTripped.LineBusy ∧ halfTripped.isLive 1 = true
        ∧ tripsAt r halfTripped t 0 = true ∧ tripsAt r halfTripped t 1 = false)
    ∧ ∀ (i : SlotIx) (x : Truck), halfTripped.truck? i = some x → x.contact.state = .crossing →
        halfTripped.sectionOf x.est = some 1 → x.sec = some 1 := by
  refine ⟨⟨scanned_source 400, by decide +kernel, by unfold State.LineBusy; decide +kernel, by decide +kernel⟩,
    ⟨scanned_source 1448, by unfold State.LineBusy; decide +kernel, by decide +kernel, by decide +kernel⟩,
    ⟨by unfold State.SourceKept; decide +kernel, by decide +kernel, by unfold State.LineBusy; decide +kernel, by decide +kernel,
      by decide +kernel, by decide +kernel⟩, fun i x h => ?_⟩
  exact of_decide_eq_true (of_trucks (s := halfTripped) (fun _ x => decide (x.contact.state = .crossing →
    halfTripped.sectionOf x.est = some 1 → x.sec = some 1)) (by decide +kernel) i x h)

/-- The fields of an ENROL: tag, direction and position. -/
def enrolFields (tag dir pos : Nat) : EnrolFields := ⟨BitVec.ofNat 16 tag, 0, BitVec.ofNat 8 dir, BitVec.ofNat 16 pos, 0⟩

/-- A ramp whose S1 starts at 100 m, so that a descending truck can be enrolled below it. -/
def raised : State := { State.reset with secs := State.reset.secs.set 0 (sec 100 640 .dead .configured) }

theorem witness_EnrolMakesARecord :
    Taken (hd 9) 9 raised ∧ (enrolFields 0 0 0).truck.toNat = 0 ∧ (enrolFields 65535 0 0).truck.toNat = 65535
    ∧ (enrolFields 65534 1 49).truck.toNat ≠ 65535 ∧ (enrolFields 65534 1 49).cls.toNat = TruckClass.loaded.code
    ∧ (enrolFields 65534 1 49).dir.toNat = Dir.descend.code ∧ raised.roster[0] = .free ∧ raised.topEnd = some 640
    ∧ min (enrolFields 65534 1 49).position.toNat 8191 < 640 ∧ raised.bottomEnd = some 100 ∧ 49 + 50 < 100 ∧ 100 ≤ 50 + 50
    ∧ 640 ≤ min (enrolFields 7 0 640).position.toNat 8191 := by
  unfold Taken; decide +kernel

theorem witness_EnrolMakesARecord_duplicate :
    ∃ (i : SlotIx) (r : Truck), yard.truck? i = some r ∧ r.tag = (enrolFields 103 0 100).truck.toNat :=
  ⟨3, _, by rfl, by decide⟩

theorem witness_EnrolMakesARecord_free :
    ∀ (i : SlotIx) (r : Truck), yard.truck? i = some r → r.tag ≠ (enrolFields 517 0 100).truck.toNat := fun i r h => by
  simpa using of_trucks (fun _ r => decide (r.tag ≠ (enrolFields 517 0 100).truck.toNat)) (by decide +kernel) i r h

/-- The fields of a REPORT of the yard. -/
def reportFields (tag pos panto current demand : Nat) : ReportFields :=
  ⟨BitVec.ofNat 16 tag, BitVec.ofNat 16 pos, 0, 0, 0, BitVec.ofNat 8 panto, BitVec.ofNat 16 current,
    BitVec.ofNat 16 demand, 0⟩

theorem witness_ReportsAreRecorded :
    Taken (hd 15) 15 yard ∧ yard.slotOf (reportFields 999 0 0 0 0).truck.toNat = none
    ∧ yard.slotOf (reportFields 103 300 1 450 310).truck.toNat = some 3 ∧ (yard.truck? 3).isSome = true
    ∧ (reportFields 103 300 1 450 310).cls.toNat = TruckClass.loaded.code
    ∧ (reportFields 103 300 1 450 310).dir.toNat = Dir.climb.code
    ∧ (reportFields 103 300 1 450 310).panto.toNat = Panto.up.code ∧ 1 < (reportFields 103 300 2 450 310).panto.toNat := by
  unfold Taken; decide +kernel

/-- The ON-WIRE truck of slot 3, one loss of contact below the arc limit. -/
def arced : State := yard.modTruck 3 fun t => { t with lastCount := some 10, arc := 5 }

/-- The clauses of the cut to the demand, of the entry into SHEDDING, and of a tally that reaches its limit. -/
theorem witness_ReportsAreRecorded_cuts :
    ((yard.truck? 3).map (fun r => (r.contact, r.grant)) = some (.onWire, 500)
      ∧ ((run (reporting 103 300 1 450 310) yard).truck? 3).map (·.contact) = some .onWire
      ∧ ((run (reporting 103 610 1 450 310) yard).truck? 3).map (·.contact.passing) = some true
      ∧ ((run (reporting 104 615 1 90 600) yard).truck? 4).map (·.contact) = some (.crossing 0))
    ∧ (let x : ReportFields := { reportFields 103 300 1 450 600 with count := 11 }
       let r0 := (run (.report (hd 15) x) { arced with limits := { arced.limits with arcLimit := 64 } }).truck? 3
       Taken (hd 15) 15 arced ∧ arced.slotOf x.truck.toNat = some 3 ∧ (arced.truck? 3).map (·.arc) = some 5
        ∧ r0.map (fun r => (r.contact, r.arc)) = some (.onWire, 6) ∧ arced.limits.arcLimit = 6
        ∧ ((run (.report (hd 15) x) arced).truck? 3).isSome = true) := by
  unfold Taken; decide +kernel

theorem witness_ReportsMoveTheContactState_down :
    (Taken (hd 15) 15 yard ∧ (reportFields 103 300 0 0 0).cls.toNat = TruckClass.loaded.code
      ∧ (reportFields 103 300 0 0 0).dir.toNat = Dir.climb.code ∧ (reportFields 103 300 0 0 0).panto.toNat = 0)
    ∧ (isNext (exec (reporting 103 300 0 0 0) yard) = true ∧ yard.slotOf (103 : Half).toNat = some 3
      ∧ (yard.truck? 3).map (·.contact) = some .onWire ∧ ((run (reporting 103 300 0 0 0) yard).truck? 3).isSome = true)
    ∧ (isNext (exec (reporting 102 200 0 0 0) yard) = true ∧ yard.slotOf (102 : Half).toNat = some 2
      ∧ (yard.truck? 2).map (fun r => (r.contact, r.dir, r.sec, r.lastCount, r.arc)) =
          some (.cleared 5000, .climb, some 0, none, 0) ∧ yard.sectionOf 200 = some 0)
    ∧ (({ reportFields 102 200 0 0 0 with dir := 1 } : ReportFields).dir.toNat = Dir.descend.code
      ∧ isNext (exec (.report (hd 15) { reportFields 102 200 0 0 0 with dir := 1 }) yard) = true)
    ∧ (isNext (exec (reporting 102 640 0 0 0) yard) = true ∧ yard.sectionOf 640 ≠ some 0
      ∧ isNext (exec (reporting 102 3700 0 0 0) yard) = true
      ∧ (yard.truck? 2).map (fun r => (yard.beyondEnds { r with est := 640 }, yard.beyondEnds { r with est := 3700 })) =
          some (false, true)) := by
  refine ⟨by unfold Taken; decide +kernel, ?_, ?_, ?_, ?_⟩ <;> decide +kernel

/-- The queue of S1 holds slot 1 alone, and the queues are kept. -/
theorem yard_queues : yard.QueuesKept := queues_of (by decide +kernel) (by decide +kernel)

/-- The yard with a ramp that starts at 100 m. -/
def lifted : State := { yard with secs := yard.secs.set 0 { yard.secs[0] with settings := some (settings 100 640) } }

/-- The queue of S2 holds eight entries. -/
def packed : State :=
  (List.finRange 16).foldl (fun s i => if 8 ≤ i.val then s.setSlot i (.occupied (truck (200 + i.val) 700 (some 1) .waiting)) else s)
    { yard with secs := yard.secs.set 1 { yard.secs[1] with
        queue := (List.range 8).map fun n => ⟨Fin.ofNat 16 (n + 8), 10, false⟩ } }

theorem witness_ReportsMoveTheContactState_waiting :
    (yard.QueuesKept ∧ (yard.truck? 1).map (fun r => (r.contact, r.sec)) = some (.waiting, some 0)
      ∧ (⟨1, 10, false⟩ : QEntry) ∈ yard.secs[0].queue ∧ yard.slotOf (101 : Half).toNat = some 1)
    ∧ (yard.sectionOf 200 = some 0 ∧ isNext (exec (reporting 101 200 0 0 0) yard) = true)
    ∧ (yard.sectionOf 640 = some 1 ∧ yard.secs[1].queue.length < 8 ∧ isNext (exec (reporting 101 640 0 0 0) yard) = true)
    ∧ (yard.sectionOf 3700 = none ∧ isNext (exec (reporting 101 3700 0 0 0) yard) = true
      ∧ (yard.truck? 1).map (fun r => yard.beyondEnds { r with est := 3700 }) = some true)
    ∧ (lifted.QueuesKept ∧ lifted.sectionOf 99 = none ∧ isNext (exec (reporting 101 99 0 0 0) lifted) = true
      ∧ (lifted.truck? 1).map (fun r => lifted.beyondEnds { r with est := 99 }) = some false)
    ∧ (packed.QueuesKept ∧ packed.sectionOf 640 = some 1 ∧ packed.secs[1].queue.length = 8
      ∧ isNext (exec (reporting 101 640 0 0 0) packed) = true) := by
  refine ⟨⟨yard_queues, ?_⟩, ?_, ?_, ?_, ⟨queues_of ?_ ?_, ?_⟩, ⟨queues_of ?_ ?_, ?_⟩⟩ <;> decide +kernel

/-- Slot 4 has reported before, with no losses of contact. -/
def counted : State := yard.modTruck 4 fun t => { t with lastCount := some 0 }

/-- The CLEARED truck of slot 2 stands in S6. -/
def topmost : State := yard.modTruck 2 fun t => { t with sec := some 5, est := 3500 }

theorem witness_ReportsMoveTheContactState_up :
    (isNext (exec (reporting 100 100 1 0 0) yard) = true ∧ (yard.truck? 0).map (·.contact) = some .enrolled
      ∧ isNext (exec (reporting 101 100 1 0 0) yard) = true ∧ (yard.truck? 1).map (·.contact) = some .waiting)
    ∧ (isNext (exec (.report (hd 15) { reportFields 103 300 1 0 0 with dir := 1 }) yard) = true
      ∧ (yard.truck? 3).map (fun r => (r.contact.onWireSet, r.dir)) = some (true, .climb)
      ∧ isNext (exec (.report (hd 15) { reportFields 106 2500 1 0 0 with dir := 1 }) yard) = true
      ∧ (yard.truck? 6).map (fun r => (r.contact.state, r.dir)) = some (.held, .climb))
    ∧ (isNext (exec (reporting 102 640 1 0 0) yard) = true ∧ yard.sectionOf 640 ≠ some 0)
    ∧ 0 < yard.limits.staleLimit
    ∧ (isNext (exec (reporting 102 200 1 0 0) yard) = true ∧ isNext (exec (reporting 102 600 1 100 0) yard) = true
      ∧ isNext (exec (reporting 102 600 1 101 0) yard) = true ∧ yard.limits.c = 100 ∧ yard.sectionOf 600 = some 0)
    ∧ (isNext (exec (reporting 102 3599 1 0 0) topmost) = true ∧ topmost.sectionOf 3599 = some 5
      ∧ (topmost.truck? 2).map (fun r => (r.contact, r.dir, r.sec)) = some (.cleared 5000, .climb, some 5))
    ∧ (isNext (exec (reporting 104 639 1 100 600) counted) = true ∧ isNext (exec (reporting 104 639 1 101 600) counted) = true
      ∧ counted.slotOf (104 : Half).toNat = some 4 ∧ counted.sectionOf 639 = some 0
      ∧ (counted.truck? 4).map (fun r => (r.contact, r.dir, r.sec, r.lastCount, r.arc)) =
          some (.shedding 0 1500, .climb, some 0, some 0, 0)
      ∧ counted.secs[0].settings = some (settings 0 640) ∧ 639 < (settings 0 640).upper) := by
  refine ⟨?_, ?_, ?_, ?_, ?_, ?_, ?_⟩ <;> decide +kernel

/-- Reports of trucks on the wire at the boundary of S1, at 640 m, and at the transfer point of gap 1, at 650 m. -/
theorem witness_ReportsMoveTheContactState_wire :
    (yard.secs[0].settings = some (settings 0 640) ∧ 640 ≤ (settings 0 640).upper
      ∧ (yard.truck? 3).map (fun r => (r.contact, r.dir, r.sec, r.arc)) = some (.onWire, .climb, some 0, 0)
      ∧ (yard.truck? 4).map (fun r => (r.contact.state, r.dir, r.sec)) = some (.shedding, .climb, some 0)
      ∧ isNext (exec (reporting 103 640 1 0 0) yard) = true ∧ isNext (exec (reporting 104 640 1 0 0) yard) = true
      ∧ (1 : SecIx).val = (0 : SecIx).val + 1 ∧ yard.secs[1].settings ≠ none)
    ∧ (isNext (exec (reporting 103 599 1 0 0) yard) = true ∧ isNext (exec (reporting 103 639 1 100 0) yard) = true
      ∧ isNext (exec (reporting 103 639 1 101 0) yard) = true ∧ yard.sectionOf 639 = some 0 ∧ ¬ (settings 0 640).upper ≤ 639)
    ∧ (let s := yard.modTruck 3 fun t => { t with sec := some 5, est := 3500 }
       isNext (exec (reporting 103 3599 1 0 0) s) = true ∧ s.sectionOf 3599 = some 5)
    ∧ ((yard.truck? 5).map (fun r => (r.contact, r.dir, r.sec, r.arc)) = some (.crossing 0, .climb, some 0, 0)
      ∧ yard.gapPos 0 + yard.limits.e = 650 ∧ isNext (exec (reporting 105 649 1 0 0) yard) = true
      ∧ isNext (exec (reporting 105 650 1 101 0) yard) = true) := by
  refine ⟨?_, ?_, ?_, ?_⟩ <;> decide +kernel

/-- The clauses of what a changed estimate brings: a HELD truck that stays, moves to a section that is not LIVE and to a LIVE one;
a LOWERING truck over a gap on the wire; a truck that leaves its section against its direction; a transfer at C and below. -/
theorem witness_ReportsMoveTheContactState_moves :
    ((yard.truck? 6).map (fun r => (r.contact, r.dir, r.sec, r.arc, r.lastCount)) =
        some (.held .onWire 700, .climb, some 4, 0, none)
      ∧ yard.sectionOf 2500 = some 4 ∧ yard.sectionOf 2300 = some 3 ∧ yard.isLive 3 = false
      ∧ yard.sectionOf 500 = some 0 ∧ yard.isLive 0 = true
      ∧ [2500, 2300, 500].all (fun p => isNext (exec (reporting 106 p 1 0 0) yard)) = true)
    ∧ ((yard.truck? 7).map (fun r => (r.contact, r.sec)) = some (.lowering (some 5000), some 0)
      ∧ yard.sectionOf 640 = some 1 ∧ yard.secs[0].settings = some (settings 0 640)
      ∧ [100, 101].all (fun a => isNext (exec (reporting 107 640 1 a 0) yard)) = true)
    ∧ (lifted.secs[0].settings = some (settings 100 640) ∧ lifted.sectionOf 99 = none
      ∧ (lifted.truck? 3).map (fun r => (r.contact, r.dir, r.sec)) = some (.onWire, .climb, some 0)
      ∧ (lifted.truck? 5).map (fun r => (r.contact, r.dir, r.sec)) = some (.crossing 0, .climb, some 0)
      ∧ [103, 104, 105].all (fun n => isNext (exec (reporting n 99 1 0 0) lifted)) = true)
    ∧ (isNext (exec (reporting 105 650 1 100 0) yard) = true ∧ (yard.truck? 5).map (fun r => (r.age, r.grant)) = some (0, 100)) := by
  refine ⟨?_, ?_, ?_, ?_⟩ <;> decide +kernel

/-- S1 with a cap of 6 and an empty queue. -/
def open' : State :=
  { yard with secs := yard.secs.set 0 { yard.secs[0] with settings := some { settings 0 640 with cap := 6 }, queue := [] } }

theorem witness_RaiseClearsQueuesOrRefuses :
    (Taken (hd 4) 4 yard ∧ yard.slotOf (999 : Half).toNat = none ∧ yard.slotOf (100 : Half).toNat = some 0
      ∧ (yard.truck? 0).map (fun r => (r.contact, r.bar, r.sec, r.inside, decide (r.age < 3 * r.stalePoint))) =
          some (.enrolled, none, some 0, false, true)
      ∧ yard.secs[0].queue ≠ [] ∧ yard.secs[0].queue.length < 8)
    ∧ (open'.isLive 0 = true ∧ open'.secs[0].queue = [] ∧ ∃ c, open'.secs[0].settings = some c ∧ open'.onWireCount 0 < c.cap)
    ∧ (let old (s : State) := s.modTruck 0 fun t => { t with age := 60000 }
       (((old open').truck? 0).map (fun r => (r.contact, r.bar, decide (3 * r.stalePoint ≤ r.age))) =
          some (.enrolled, none, true)
        ∧ (old open').onWireCount 0 = open'.onWireCount 0)
       ∧ ((old yard).truck? 0).map (fun r => (r.contact, decide (60000 ≤ r.age))) = some (.enrolled, true)
        ∧ (old yard).secs[0].queue ≠ []) :=
  ⟨by unfold Taken; decide +kernel, ⟨by decide +kernel, by decide +kernel, { settings 0 640 with cap := 6 },
    by decide +kernel, by decide +kernel⟩, by decide +kernel⟩

theorem witness_DepartReleasesAnIdleTruck :
    Taken (hd 4) 4 yard ∧ yard.slotOf (999 : Half).toNat = none ∧ yard.slotOf (101 : Half).toNat = some 1
    ∧ (yard.truck? 1).map (·.contact) = some .waiting ∧ (yard.truck? 3).map (·.contact) = some .onWire := by
  unfold Taken; decide +kernel

theorem witness_WindowsRunOut :
    (yard.truck? 2).map (·.contact) = some (.cleared 5000) ∧ (yard.truck? 7).map (·.contact) = some (.lowering (some 5000))
    ∧ (yard.truck? 4).map (·.contact) = some (.shedding 0 1500) := by decide +kernel

theorem witness_AgesAndDurationsOfARecord :
    (yard.truck? 3).map (fun r => (r.stale, r.contact.onWireSet)) = some (false, true)
    ∧ (yard.truck? 0).map (·.contact) = some .enrolled
    ∧ ((yard.modTruck 0 fun t => { t with bar := some 60000 }).truck? 0).map (·.bar) = some (some 60000) := by decide +kernel

theorem witness_ActivationMarksTheNearestTruck :
    (ramp.gapExists 1 = true ∧ ∀ (i : SlotIx) (r : Truck), ramp.truck? i = some r → ramp.reachable 1 r = false)
    ∧ (ramp.ifl.gaps[1].value = false ∧ crossing.ifl.gaps[1].value = false
      ∧ ¬ (Change.gap 1 true ∈ (sensed 1 crossing).ifl.handed ∨ (sensed 1 crossing).ifl.gaps[1].value = false)
      ∧ ¬ (Change.gap 1 false ∈ crossing.ifl.handed ∨ crossing.ifl.gaps[1].value = true))
    ∧ (crossing.gapExists 1 = true ∧ crossing.LineBusy ∧ (crossing.truck? 5).map (crossing.reachable 1) = some true
      ∧ ∀ (j : SlotIx) (q : Truck), crossing.truck? j = some q → crossing.reachable 1 q = true →
          Machine.dist 1199 (crossing.gapPos 1) < Machine.dist q.est (crossing.gapPos 1)
          ∨ (Machine.dist 1199 (crossing.gapPos 1) = Machine.dist q.est (crossing.gapPos 1) ∧ (5 : SlotIx) ≤ j))
    ∧ State.reset.gapExists 1 = false ∧ State.reset.LineBusy := by
  refine ⟨⟨by decide +kernel, fun i r h => ?_⟩, by decide +kernel,
    ⟨by decide +kernel, by unfold State.LineBusy; decide +kernel, by decide +kernel, fun j q h hr => ?_⟩, by decide +kernel, by unfold State.LineBusy; decide +kernel⟩
  · simpa using of_trucks (s := ramp) (fun _ r => decide (ramp.reachable 1 r = false)) (by decide +kernel) i r h
  · have := of_trucks (s := crossing) (fun j q => decide (crossing.reachable 1 q = true →
      (Machine.dist 1199 (crossing.gapPos 1) < Machine.dist q.est (crossing.gapPos 1)
        ∨ (Machine.dist 1199 (crossing.gapPos 1) = Machine.dist q.est (crossing.gapPos 1) ∧ (5 : SlotIx) ≤ j))))
      (by decide +kernel) j q h
    exact (of_decide_eq_true this) hr

/-- Slot 4 alone within reach of gap 1, SHEDDING. -/
def overrunning : State :=
  place [(4, { truck 104 640 (some 0) (.shedding 0 1500) with grant := 100, demand := 600, current := 430 })] ramp

theorem witness_ActivationMarksTheNearestTruck_shedding :
    (overrunning.gapExists 0 = true ∧ overrunning.ifl.gaps[0].value = false)
    ∧ (overrunning.truck? 4).map (fun r => (r.contact.state, overrunning.reachable 0 r)) = some (.shedding, true)
    ∧ ∀ (j : SlotIx) (q : Truck), overrunning.truck? j = some q → overrunning.reachable 0 q = true →
        Machine.dist 640 (overrunning.gapPos 0) < Machine.dist q.est (overrunning.gapPos 0)
        ∨ (Machine.dist 640 (overrunning.gapPos 0) = Machine.dist q.est (overrunning.gapPos 0) ∧ (4 : SlotIx) ≤ j) := by
  refine ⟨by decide +kernel, by decide +kernel, fun j q h hr => ?_⟩
  have := of_trucks (s := overrunning) (fun j q => decide (overrunning.reachable 0 q = true →
    (Machine.dist 640 (overrunning.gapPos 0) < Machine.dist q.est (overrunning.gapPos 0)
      ∨ (Machine.dist 640 (overrunning.gapPos 0) = Machine.dist q.est (overrunning.gapPos 0) ∧ (4 : SlotIx) ≤ j))))
    (by decide +kernel) j q h
  exact (of_decide_eq_true this) hr

theorem witness_DeactivationTransfersTheMarkedTruck :
    (crossing.gapExists 1 = true ∧ crossing.LineBusy ∧ crossing.seen[1] = none)
    ∧ (State.reset.gapExists 1 = false ∧ State.reset.LineBusy)
    ∧ (let s := run (.gapSensorActivation 1) crossing
       s.gapExists 1 = true ∧ s.ifl.gaps[1].value = true ∧ s.seen[1] = some 5 ∧ (s.truck? 5).map (·.contact) = some (.crossing 1)
        ∧ s.sectionOf 1200 = some (across 1 .climb) ∧ s.isLive (across 1 .climb) = false)
    ∧ (let s := { sensed 1 crossing with seen := crossing.seen.set 1 (some 9) }
       s.gapExists 1 = true ∧ s.ifl.gaps[1].value = true ∧ s.LineBusy ∧ (s.truck? 9).map (·.contact) = some (.lowering (some 5000))) := by
  unfold State.LineBusy; decide +kernel

/-- Slot 5 CROSSING gap 2 upwards from S2 and slot 9 downwards from S3, both sections LIVE, with a mark for one of them and the
sensor at active. -/
def liveGap (i : SlotIx) : State :=
  { place [(5, { truck 5 1199 (some 1) (.crossing 1) with grant := 100, demand := 1500, current := 60 }),
      (9, { truck 9 1199 (some 2) (.crossing 1) with dir := .descend, grant := 100, demand := 800 })]
      { ramp with
        secs := (ramp.secs.set 1 (sec 640 1200 .live .closed)).set 2 (sec 1200 1850 .live .closed)
        source := none } with seen := ramp.seen.set 1 (some i), ifl := ramp.ifl.put (.gap 1 true) }

theorem witness_DeactivationTransfersTheMarkedTruck_live :
    ((liveGap 5).gapExists 1 = true ∧ (liveGap 5).ifl.gaps[1].value = true ∧ (liveGap 5).seen[1] = some 5
      ∧ ((liveGap 5).truck? 5).map (fun r => (r.contact, decide (r.age < 3 * r.stalePoint))) = some (.crossing 1, true)
      ∧ (liveGap 5).sectionOf 1200 = some (across 1 .climb) ∧ (liveGap 5).isLive (across 1 .climb) = true)
    ∧ ((liveGap 9).seen[1] = some 9
      ∧ ((liveGap 9).truck? 9).map (fun r => (r.contact, decide (r.age < 3 * r.stalePoint))) = some (.crossing 1, true)
      ∧ (liveGap 9).sectionOf 1199 = some (across 1 .descend) ∧ (liveGap 9).isLive (across 1 .descend) = true
      ∧ (liveGap 9).secs[across 1 .descend].settings = some (settings 640 1200) ∧ 640 < 1199) := by decide +kernel

/-- A climbing truck outside its zone is ON-WIRE in the LIVE section across (R73). -/
theorem test_deactivation_live :
    let t := run (.gapSensorDeactivation 1) ((liveGap 5).modTruck 5 fun x => { x with est := 1300 })
    (t.truck? 5).map (fun x => (x.sec, x.est, x.grant, x.contact)) = some (some 2, 1300, 0, .onWire) := by decide +kernel

theorem witness_CycleTakesItsInputs :
    before7312.cycle = none ∧ before7312.bgeScans = [scanOf 1 0 [(11, 2480)]] ∧ before7312.LineBusy
    ∧ before7312.isLive 2 = true ∧ before7312.secs[2].settings = some (settings 1200 1850)
    ∧ (before7312.truck? 5).map (fun r => (r.sec, r.contact, r.stale)) = some (some 2, .onWire, false)
    ∧ (before7312.truck? 7).map (fun r => (r.sec, r.contact, r.dir)) = some (some 2, .onWire, .descend) := by
  unfold State.LineBusy; decide +kernel

theorem witness_SharesSumToTheQuanta :
    (([⟨5, 160, 1300⟩, ⟨11, 150, 1000⟩] : List Claim).map (·.slot)).Nodup
    ∧ 300 < totalDemand [⟨5, 160, 1300⟩, ⟨11, 150, 1000⟩] := by decide

/-- The worked cycle with its inputs taken. -/
def computed : State := run .budgetCycleInputs before7312

theorem witness_PublicationAppliesTheCycle :
    ∃ (cy : Cycle) (o : SecOut) (r : Truck) (n : TruckIn) (g : Nat), computed.cycle = some cy ∧ cy.outs[2] = some o
      ∧ computed.isLive 2 = true ∧ computed.secs[2].budget.livePeriod = cy.secs[2].period ∧ cy.discard = false
      ∧ computed.truck? 5 = some r ∧ cy.trucks[5] = some n ∧ cy.grants[5] = some g
      ∧ r.sec = some 2 ∧ r.dir = .climb ∧ r.contact = .onWire :=
  ⟨(computed.cycle).getD (computed.takeInputs (scanOf 1 0 [])), ⟨3108, true, false⟩,
    { truck 205 1460 (some 2) .onWire with demand := 1600, current := 1290, grant := 1300 },
    ⟨some 2, .climb, .loaded, .onWire, false, 1460, 0, 1290, 1600, 1300, none, false, false, false⟩, 1550,
    by decide +kernel⟩

/-- No cycle moves a truck, from a test of each slot. -/
theorem unmoved_of {s : State} (h : ∀ i : SlotIx, (s.truck? i).all (fun r => s.cycle.all fun cy =>
      (cy.trucks[i]).all fun n => decide (n.stale = true ∨ n.reported = true ∨ n.transferred = true
        ∨ (moved r.est r.rem (n.speed * cy.dt) n.dir).1 = r.est)) = true)
    (cy : Cycle) (hcy : s.cycle = some cy) (i : SlotIx) (r : Truck) (n : TruckIn) (hr : s.truck? i = some r)
    (hn : cy.trucks[i] = some n) : n.stale = true ∨ n.reported = true ∨ n.transferred = true
      ∨ (moved r.est r.rem (n.speed * cy.dt) n.dir).1 = r.est :=
  of_decide_eq_true (of_all (of_all (of_all (h i) hr) hcy) hn)

/-- The worked cycle with no truck moving. -/
def still : State := run .budgetCycleInputs (before7312.modTruck 7 fun t => { t with speed := 0, rem := 0 })

/-- The queues of a state without WAITING trucks are kept where they are empty. -/
theorem still_queues : still.QueuesKept := queues_of (by decide +kernel) (by decide +kernel)

theorem witness_PublicationAppliesTheCycle_grants :
    still.QueuesKept
    ∧ (∀ cy, still.cycle = some cy → ∀ (i : SlotIx) (r : Truck) (n : TruckIn), still.truck? i = some r →
        cy.trucks[i] = some n → n.stale = true ∨ n.reported = true ∨ n.transferred = true
          ∨ (moved r.est r.rem (n.speed * cy.dt) n.dir).1 = r.est)
    ∧ (∃ cy o, still.cycle = some cy ∧ cy.outs[2] = some o ∧ still.isLive 2 = true
        ∧ still.secs[2].budget.livePeriod = cy.secs[2].period ∧ cy.discard = false ∧ cy.outs[1] = none)
    ∧ (still.truck? 5).map (fun r => (r.sec, r.contact)) = some (some 2, .onWire)
    ∧ ((run .budgetCyclePublication still).truck? 5).isSome = true := by
  exact ⟨still_queues, unmoved_of (by decide +kernel), ⟨still.cycle.getD (still.takeInputs (scanOf 1 0 [])), ⟨3108, true, false⟩,
    by decide +kernel⟩, by decide +kernel, by decide +kernel⟩

theorem witness_CycleMovesAndMetersTrucks :
    computed.cycle.isSome = true ∧ (∃ t, exec .budgetCyclePublication computed = .next t)
    ∧ (computed.truck? 7).isSome = true ∧ ((run .budgetCyclePublication computed).truck? 7).isSome = true
    ∧ (4294967295 : Nat) < 4294967296 ∧ (3000000 : Nat) ≤ 3000000 ∧ (254 : Nat) < 255 ∧ (9999 : Nat) < 10000
    ∧ (8191 : Nat) ≤ 8191 :=
  ⟨by decide +kernel, next_of (by decide +kernel), by decide +kernel, by decide +kernel, by decide⟩

/-- A truck that alone moves, by 2 m, at the end of a cycle whose inputs are taken; S1 is LIVE and S2 is not, and a WAITING truck
stands in the queue of its section. -/
def moving (r : Truck) : State :=
  let s := place [(7, { r with speed := 200 })] { ramp with bgeScans := [scanOf 1 0 []] }
  run .budgetCycleInputs (match r.contact, r.sec with
    | .waiting, some k => s.modQueue k (· ++ [⟨7, 10, false⟩])
    | _, _ => s)

/-- The trucks of the clauses of what a changed estimate brings. -/
def movers : List Truck :=
  let down (r : Truck) : Truck := { r with dir := .descend }
  [truck 1 3649 none .enrolled, truck 1 639 (some 0) .enrolled,
   truck 1 639 (some 0) (.cleared 5000), truck 1 300 (some 0) (.cleared 5000), truck 1 3649 (some 5) (.cleared 5000),
   { truck 1 639 (some 0) (.cleared 5000) with age := 60000 },
   truck 1 300 (some 0) (.held .shedding 100), truck 1 639 (some 0) (.held .shedding 100),
   down (truck 1 641 (some 1) (.held .shedding 100)),
   { truck 1 639 (some 0) (.lowering none) with current := 101 }, truck 1 300 (some 0) (.lowering none),
   truck 1 300 (some 0) .onWire, truck 1 610 (some 0) .onWire, truck 1 639 (some 0) .onWire, down (truck 1 700 (some 0) .onWire),
   truck 1 610 (some 0) (.shedding 0 100), truck 1 639 (some 0) (.shedding 0 100),
   truck 1 645 (some 0) (.crossing 0), truck 1 649 (some 0) (.crossing 0), down (truck 1 649 (some 0) (.crossing 0)),
   truck 1 300 (some 0) .waiting, truck 1 639 (some 0) .waiting, truck 1 3599 (some 5) .waiting,
   { truck 1 3599 (some 5) .waiting with age := 60000 }]

/-- The hypotheses on a truck that alone moves. -/
def alone (s : State) : Bool :=
  isNext (exec .budgetCyclePublication s)
  && (allSlots.all fun j => decide (j = 7) || (s.truck? j).isNone)
  && s.cycle.any fun cy => (cy.trucks[7]).any fun n => (s.truck? 7).any fun r =>
    decide (n.stale = false ∧ n.reported = false ∧ n.transferred = false
      ∧ (moved r.est r.rem (n.speed * cy.dt) n.dir).1 ≠ r.est
      ∧ (r.contact = .waiting → ∃ k ∈ allSecs, r.sec = some k ∧ (⟨7, 10, false⟩ : QEntry) ∈ s.secs[k].queue))

theorem witness_CycleMovesAndMetersTrucks_moves :
    (∀ r ∈ movers, alone (moving r) = true) ∧ (∀ r ∈ movers, (moving r).QueuesKept)
    ∧ (moving (truck 1 300 (some 0) .onWire)).isLive 0 = true ∧ (moving (truck 1 300 (some 0) .onWire)).isLive 1 = false := by
  have h : ∀ r ∈ movers,
      (∀ k : SecIx, (moving r).secs[k].queue.length ≤ Config.queueSize ∧ ((moving r).secs[k].queue.map (·.slot)).Nodup)
      ∧ ∀ (k : SecIx) (i : SlotIx), i ∈ (moving r).secs[k].queue.map (·.slot) ↔
        (((moving r).truck? i).any fun t => decide (t.contact = .waiting ∧ t.sec = some k)) = true := by decide +kernel
  exact ⟨by decide +kernel, fun r hr => queues_of (h r hr).1 (h r hr).2, by decide +kernel, by decide +kernel⟩

/-- S1 with one place below its cap and two WAITING trucks, the later one an EMPTY truck that is urgent, its cycle's inputs
taken. -/
def serving : State :=
  let s := place [(1, { truck 101 200 (some 0) .waiting with panto := .down }),
      (2, { truck 102 250 (some 0) .waiting with panto := .down, cls := .empty }),
      (3, { truck 103 300 (some 0) .onWire with grant := 500, demand := 600, current := 450 })]
    { ramp with secs := ramp.secs.set 0 { ramp.secs[0] with
        settings := some { settings 0 640 with cap := 2 }, queue := [⟨1, 10, false⟩, ⟨2, 1, false⟩], budget := ⟨1000, 5, 0, 1⟩ } }
  run .budgetCycleInputs { s with bgeScans := [scanOf 1 0 []] }

/-- The urgent truck is served, though the other has waited longer and is of the higher class (R89, R91). -/
theorem test_urgent_first :
    let t := run .budgetCyclePublication serving
    (t.secs[0].queue, (t.truck? 2).map (·.contact)) = ([⟨1, 9, false⟩], some (.cleared 5000)) := by decide +kernel

theorem witness_CycleMovesAndMetersTrucks_queues :
    serving.QueuesKept
    ∧ (∀ cy, serving.cycle = some cy → ∀ (i : SlotIx) (r : Truck) (n : TruckIn), serving.truck? i = some r →
        r.contact = .waiting → cy.trucks[i] = some n → n.stale = true ∨ n.reported = true ∨ n.transferred = true
          ∨ (moved r.est r.rem (n.speed * cy.dt) n.dir).1 = r.est)
    ∧ serving.cycle.isSome = true ∧ serving.isLive 0 = true
    ∧ serving.secs[0].settings = some { settings 0 640 with cap := 2 } ∧ serving.isLive 1 = false
    ∧ (serving.truck? 2).map (fun r => (r.bar, r.inside, decide (r.age < 3 * r.stalePoint))) = some (none, false, true)
    ∧ (serving.truck? 1).map (fun r => (r.bar, r.inside)) = some (none, false) := by
  exact ⟨queues_of (by decide +kernel) (by decide +kernel), fun cy hcy i r n hr _ hn => unmoved_of (by decide +kernel) cy hcy i r n hr hn, by decide +kernel,
    by decide +kernel, by decide +kernel, by decide +kernel, by decide +kernel, by decide +kernel⟩

/-- The worked cycle computed, and its publication waiting. -/
def publishing : State :=
  let x := { sec 1200 1850 .live .closed with budget := ⟨3108, 7311, 4, 1⟩ }
  { computed with pending := [.budgetCyclePublication], secs := computed.secs.set 2 x }

/-- A cycle has computed a grant for a record as it took it. -/
def covered (cy : Cycle) (i : SlotIx) (t : Truck) : Bool :=
  (cy.trucks[i]).any fun n => decide (n.sec = t.sec ∧ n.dir = .climb ∧ n.contact = .onWire ∧ n.restored = false
    ∧ n.transferred = false ∧ (cy.grants[i]).isSome = true)

theorem publishing_steps : ∃ t, step publishing = .next t := next_of (by decide +kernel)

theorem publishing_quanta : publishing.QuantaKept := by
  refine ⟨by decide +kernel, by decide +kernel, fun i t h => ?_, fun cy hcy i g hg => ?_⟩
  · have := of_decide_eq_true (of_trucks (s := publishing) (fun _ t => decide (10 ∣ t.demand ∧ t.demand ≤ 3000 ∧ 10 ∣ t.grant
      ∧ t.firstCap = none ∧ t.contact.state ≠ .held)) (by decide +kernel) i t h)
    exact ⟨this.1, this.2.1, this.2.2.1, fun g e => (by rw [this.2.2.2.1] at e; cases e),
      fun p g e => absurd (by rw [e]; rfl) this.2.2.2.2⟩
  · have h : ∀ i : SlotIx, publishing.cycle.all (fun cy => (cy.grants[i]).all fun g => decide (10 ∣ g)) = true := by
      decide +kernel
    have := h i
    rw [hcy] at this
    simp only [Option.all_some, hg] at this
    exact of_decide_eq_true this

theorem witness_EveryStepKeepsGrantsWithinDemand :
    publishing.WithinDemand ∧ publishing.QuantaKept ∧ ∃ t, step publishing = .next t :=
  ⟨fun i t h => of_decide_eq_true (of_trucks (fun _ t => decide (t.grant ≤ t.demand)) (by decide +kernel) i t h),
    publishing_quanta, publishing_steps⟩

theorem publishing_source : publishing.SourceKept := by unfold State.SourceKept; decide +kernel

theorem publishing_off : publishing.OffWireZero := by
  refine ⟨fun i t h hc => ?_, fun cy hcy i n g hg hn => ?_⟩
  · have := of_trucks (s := publishing) (fun _ t => t.contact.drawing || decide (t.grant = 0)) (by decide +kernel) i t h
    simpa [hc] using this
  · have h : ∀ i : SlotIx, publishing.cycle.all (fun cy => (cy.trucks[i]).all fun n =>
        (cy.grants[i]).isNone || decide (n.contact = .onWire)) = true := by decide +kernel
    have := h i
    rw [hcy] at this
    simp only [Option.all_some, hg, hn] at this
    simpa using this

theorem publishing_dead : publishing.DeadZero := by
  intro i t h hk
  have := of_trucks (s := publishing) (fun _ t => decide (t.sec = some 2)) (by decide +kernel) i t h
  have e := hk 2 (by simpa using this)
  exact absurd e (by decide +kernel)

theorem publishing_settings : publishing.SettingsKept := by unfold State.SettingsKept; decide +kernel

theorem witness_EveryStepKeepsReturnsCovered : publishing.ReturnSafe ∧ ∃ t, step publishing = .next t :=
  ⟨⟨publishing_settings, queues_of (by decide +kernel) (by decide +kernel), publishing_source, publishing_off,
    publishing_dead, by unfold State.ReturnsCovered; decide +kernel⟩, publishing_steps⟩

theorem witness_EveryStepKeepsDrawsWithinTheCeiling : publishing.DrawSafe ∧ ∃ t, step publishing = .next t := by
  refine ⟨⟨publishing_settings, publishing_source, publishing_off, publishing_dead, fun i t h hs => ?_, fun cy hcy => ⟨fun k out ho => ?_, ?_⟩,
    by unfold State.CeilingHeld; decide +kernel⟩, publishing_steps⟩
  · have := of_trucks (s := publishing) (fun _ t => decide (t.stale = false)) (by decide +kernel) i t h
    simp [hs] at this
  · have h : ∀ k : SecIx, publishing.cycle.all (fun cy => (cy.outs[k]).all fun out =>
        decide ((allSlots.map (cy.climbGrant k)).sum ≤ out.ceiling)) = true := by decide +kernel
    have := h k
    rw [hcy] at this
    simp only [Option.all_some, ho] at this
    simpa using this
  · intro i t h hc hd hg
    have p := of_trucks (s := publishing)
      (fun i t => decide (t.dir = .descend) || decide (t.grant = 0) || decide (t.contact ≠ .onWire)
        || publishing.cycle.all fun cy => covered cy i t) (by decide +kernel) i t h
    rw [hcy] at p
    have p : covered cy i t = true := by
      rcases Bool.or_eq_true _ _ |>.mp p with p | p
      · simp only [hc, hd, Bool.or_eq_true, decide_eq_true_eq] at p
        rcases p with (p | p) | p
        · cases p
        · omega
        · exact absurd rfl p
      · exact p
    unfold covered at p
    cases hn : cy.trucks[i] with
    | none => simp only [hn, Option.any_none] at p; cases p
    | some n =>
      simp only [hn, Option.any_some, decide_eq_true_eq] at p
      exact ⟨n, hn, p⟩

/-! ### Readings of the manual that the log names -/

/-- A truck transferred into ON-WIRE during a cycle is not moved at its end (R73; notes/assumptions/25.md). -/
theorem test_transfer_not_moved :
    let s := (liveGap 5).modTruck 5 fun x => { x with est := 1300, speed := 200 }
    let t := runAll [.budgetCycleInputs, .gapSensorDeactivation 1, .budgetCyclePublication] { s with bgeScans := [scanOf 1 0 []] }
    (t.truck? 5).map (fun x => (x.est, x.contact)) = some (1300, .onWire) := by decide +kernel

/-- A change of a sensor handed over before its gap existed is not seen once it does (R3; notes/assumptions/7.md). -/
theorem test_early_change_dropped :
    (run (configure 2 640 1200 3000 4200 5000)
      { run (configure 1 0 640 3000 4200 5000) .reset with ifl := { State.reset.ifl with handed := [.gap 0 true, .stop true] }
                                                           link := .reset }).ifl.handed
    = [.stop true] := by decide +kernel

/-- The ceiling check takes whole quanta: 103 A of excess cost a CROSSING truck 110 A (R16, R121; notes/assumptions/23.md). -/
theorem test_ceiling_quanta :
    let s := place [(3, { truck 103 300 (some 0) .onWire with grant := 300, demand := 300 }),
        (5, { truck 105 630 (some 0) (.crossing 0) with grant := 200, demand := 600, inside := true, zone := .approach 0 })] ramp
    ((s.ceilingCheck 0 397).truck? 5).map (·.grant) = some 90 := by decide +kernel

end Sys2Proof.Tests
end

section
/-! PROOF. SET-CADENCE (R136): what its two operands must be, what its owner does with them, and the obligation. -/

namespace Sys2Proof.Machine

/-! ### Operands -/

/-- A number lies in a range and on its step, with the step read as a divisor. -/
theorem inRange_iff {lo hi step n : Nat} : inRange lo hi step n = true ↔ lo ≤ n ∧ n ≤ hi ∧ step ∣ n := by
  simp only [inRange, decide_eq_true_eq, Nat.dvd_iff_mod_eq_zero]

/-- Reading a byte that carries a mode's code gives that mode. -/
theorem cadenceOf_of_code {b : Byte} {m : Cadence} (hb : b.toNat = m.code) : cadenceOf b = some m := by
  cases m <;> simp only [cadenceOf, hb, Cadence.code]

/-- A byte above the last code names no mode. -/
theorem cadenceOf_eq_none {b : Byte} (hb : 2 < b.toNat) : cadenceOf b = none := by
  unfold cadenceOf
  split
  case h_4 => rfl
  all_goals omega

/-! ### The owner's part -/

/-- The Sampler once a mode and a period are taken (R136). -/
def Sampler.withCadence (x : Sampler) (m : Cadence) (period : Nat) : Sampler :=
  { x with
    mode := m
    period := period
    dtBase := if x.mode = .off ∧ m ≠ .off then none else x.dtBase
    timer := if m = .periodic then some period else none }

/-- A mode without a name or a period out of range is refused, in every mode (R136). -/
theorem State.setCadence_refused (s : State) {mode : Byte} {period : Nat}
    (bad : 2 < mode.toNat ∨ inRange 20 500 10 period = false) :
    s.setCadence mode period = (s, .reject .range 0) := by
  unfold State.setCadence
  split
  case h_1 => rfl
  case h_2 m hm =>
    have hp : inRange 20 500 10 period = false := by
      rcases bad with hmode | hp
      · rw [cadenceOf_eq_none hmode] at hm; cases hm
      · exact hp
    simp only [hp, Bool.false_eq_true, not_false_eq_true, if_true, refuse]

/-- A named mode and a period in range are taken, and only the Sampler changes (R136). -/
theorem State.setCadence_taken (s : State) {mode : Byte} {m : Cadence} {period : Nat} (hm : mode.toNat = m.code)
    (hp : inRange 20 500 10 period = true) :
    s.setCadence mode period = ({ s with smp := s.smp.withCadence m period }, .cadence m period) := by
  simp only [State.setCadence, cadenceOf_of_code hm, hp, not_true_eq_false, if_false, Sampler.withCadence]

/-! ### The command -/

/-- SET_CADENCE is the Sampler's part of a request of kind 0x03 and 5 bytes (R136, R202). -/
theorem exec_setCadence (h : ReqHdr) (mode : Byte) (period : Half) (s : State) :
    exec (.setCadence h mode period) s =
      takeRequest (.setCadence h mode period) h 0x03 5 (fun s => s.setCadence mode period.toNat) s := rfl

/-- Settles O23: the owner refuses and changes nothing, or changes the Sampler alone. -/
theorem setCadenceTakesModeAndPeriod : Obligations.SetCadenceTakesModeAndPeriod := by
  intro h mode period s ht
  have lo : Config.minBody ≤ 5 := by decide
  have hi : 5 ≤ Config.maxBody := by decide
  rw [exec_setCadence]
  refine ⟨fun bad => ?_, fun m hm h20 h500 h10 => ?_⟩
  · have bad' : 2 < mode.toNat ∨ inRange 20 500 10 period.toNat = false := by
      rw [← Bool.not_eq_true, inRange_iff]
      omega
    exact ht.onlyAnswers lo hi _ _ _ _ (State.setCadence_refused _ bad')
  · have own := s.hunt.setCadence_taken hm (inRange_iff.mpr ⟨h20, h500, h10⟩)
    obtain ⟨t, he, ha, hn, hu⟩ := ht.answered lo hi (.setCadence h mode period) 0x03
      (fun s => s.setCadence mode period.toNat) (by rw [own]; exact ⟨rfl, rfl, rfl, rfl⟩)
    rw [own] at ha hn hu
    have hsmp : t.smp = s.smp.withCadence m period.toNat := congrArg State.smp hu
    refine ⟨t, he, ⟨ha, hn, ?_⟩, hsmp⟩
    rw [hu, hsmp]
    rfl

end Sys2Proof.Machine
end

section
/-! PROOF. What a trip leaves alone (R171, R172): the measured values of every section, the Alert List but for the alerts it
raises, and, while no LIVE section owns the test source, the feeder of every other section. -/

namespace Sys2Proof.Machine

/-! ### Alerts that stay -/

/-- Whether an alert is held is read from the Alert List alone. -/
theorem AlertHeld.of_alt {kind : AlertKind} {k : Option SecIx} {s t : State} (h : AlertHeld kind k s)
    (e : t.alt = s.alt) : AlertHeld kind k t := by
  unfold AlertHeld at *
  rwa [e]

/-- A raising drops no alert that is held (R183). -/
theorem AlertHeld.raiseAlert {kind : AlertKind} {k : Option SecIx} {s : State} (h : AlertHeld kind k s)
    (kind' : AlertKind) (k' : Option SecIx) (tag : Option Nat) : AlertHeld kind k (s.raiseAlert kind' k' tag) := by
  unfold AlertHeld at *
  rw [State.raiseAlert_alt]
  rcases s.alt.raise_spec kind' k' tag s.cycleNo with ⟨a, ha, _, e⟩ | ⟨_, _, e⟩ | ⟨_, _, e⟩ <;> rw [e]
  · rcases h with h | ⟨b, hb, hk⟩
    · exact .inl h
    · rw [ha] at hb
      cases hb
      exact .inr ⟨_, rfl, hk⟩
  · exact h
  · exact h.imp_left fun ⟨a, ha, hk⟩ => ⟨a, List.mem_append_left _ ha, hk⟩

/-- A raised alert is held, pending or in attendance (R183). -/
theorem State.raiseAlert_held (s : State) (kind : AlertKind) (k : Option SecIx) (tag : Option Nat) :
    AlertHeld kind k (s.raiseAlert kind k tag) := by
  unfold AlertHeld
  rw [State.raiseAlert_alt]
  rcases s.alt.raise_spec kind k tag s.cycleNo with ⟨a, _, hf, e⟩ | ⟨_, hp, e⟩ | ⟨_, _, e⟩ <;> rw [e]
  · exact .inr ⟨_, rfl, of_decide_eq_true hf⟩
  · obtain ⟨a, ha, hf⟩ := List.any_eq_true.1 hp
    exact .inl ⟨a, ha, of_decide_eq_true hf⟩
  · exact .inl ⟨_, List.mem_append_right _ (List.mem_singleton.2 rfl), rfl, rfl⟩

/-! ### No hold raises an alert -/

@[simp] theorem State.modTruck_alt (s : State) (i : SlotIx) (f : Truck → Truck) : (s.modTruck i f).alt = s.alt := by
  obtain ⟨_, e⟩ := s.modTruck_spec i f
  rw [e]

@[simp] theorem State.setContact_alt (s : State) (i : SlotIx) (c : Contact) : (s.setContact i c).alt = s.alt :=
  s.modTruck_alt i _

@[simp] theorem State.setSec_alt (s : State) (i : SlotIx) (k : Option SecIx) : (s.setSec i k).alt = s.alt :=
  s.modTruck_alt i _

@[simp] theorem State.setFlags_alt (s : State) (i : SlotIx) : (s.setFlags i).alt = s.alt := s.modTruck_alt i _

@[simp] theorem State.setGrant_alt (s : State) (i : SlotIx) (g : Nat) : (s.setGrant i g).alt = s.alt := by
  rcases s.setGrant_spec i g with ⟨e, _⟩ | ⟨_, _, _, e⟩ <;> rw [e]
  rfl

@[simp] theorem State.queueOrder_alt (s : State) (i : SlotIx) (o : Order) : (s.queueOrder i o).alt = s.alt := by
  unfold State.queueOrder
  split <;> rfl

@[simp] theorem State.dropEntry_alt (s : State) (i : SlotIx) : (s.dropEntry i).alt = s.alt :=
  State.eachSec_view State.alt (fun _ _ => rfl) s

@[simp] theorem State.lower_alt (s : State) (i : SlotIx) (why : LowerReason) : (s.lower i why).alt = s.alt := by
  unfold State.lower
  repeat' split
  all_goals simp

@[simp] theorem State.staleCheck_alt (s : State) (i : SlotIx) : (s.staleCheck i).alt = s.alt := by
  unfold State.staleCheck
  repeat' split
  all_goals simp

@[simp] theorem State.startShedding_alt (s : State) (i : SlotIx) (g : GapIx) : (s.startShedding i g).alt = s.alt := by
  unfold State.startShedding
  split <;> simp

@[simp] theorem State.zoneAct_alt (s : State) (i : SlotIx) : (s.zoneAct i).alt = s.alt := by
  unfold State.zoneAct
  dsimp only
  repeat' split
  all_goals simp

@[simp] theorem State.restore_alt (s : State) (i : SlotIx) : (s.restore i).alt = s.alt := by
  unfold State.restore
  repeat' split
  all_goals simp

@[simp] theorem State.heldMove_alt (s : State) (i : SlotIx) (k : Option SecIx) : (s.heldMove i k).alt = s.alt := by
  unfold State.heldMove
  dsimp only
  repeat' split
  all_goals simp

@[simp] theorem State.hold_alt (s : State) (i : SlotIx) : (s.hold i).alt = s.alt := by
  unfold State.hold
  split
  · rfl
  · split
    · rfl
    · dsimp only
      split <;> simp

@[simp] theorem State.holdSection_alt (s : State) (k : SecIx) : (s.holdSection k).alt = s.alt :=
  State.eachSlot_view State.alt (fun i s => by
    split
    · split <;> simp
    · rfl) s

/-- Taking a section down raises no alert of its own (R171). -/
@[simp] theorem State.takeDown_alt (s : State) (k : SecIx) (p : Phase) (c : Cause) : (s.takeDown k p c).alt = s.alt := by
  have source (u : State) : (u.releaseSource k).alt = u.alt := by
    unfold State.releaseSource
    split
    · split <;> rfl
    · rfl
  unfold State.takeDown
  dsimp only
  rw [source]
  split <;> simp [State.leaveLive]

/-! ### What a section update shows of the others -/

/-- An update that keeps the protection record shows the same one in every section. -/
theorem State.modSec_prot (s : State) (k l : SecIx) {f : Sec → Sec} (hf : ∀ x, (f x).prot = x.prot) :
    (s.modSec k f).secs[l].prot = s.secs[l].prot := by
  rw [State.modSec_sec]
  split
  · next e => rw [hf, e]
  · rfl

/-- An update that keeps the feeder record shows every section in the same phase. -/
theorem State.modSec_phase (s : State) (k l : SecIx) {f : Sec → Sec} (hf : ∀ x, (f x).feeder = x.feeder) :
    (s.modSec k f).phase l = s.phase l := by
  unfold State.phase
  rw [State.modSec_sec]
  split
  · next e => rw [hf, e]
  · rfl

/-- An update of one section shows every other in the same phase. -/
theorem State.modSec_phase_ne (s : State) {k l : SecIx} (f : Sec → Sec) (h : l ≠ k) :
    (s.modSec k f).phase l = s.phase l := by
  unfold State.phase
  rw [s.modSec_sec_ne f h]

/-- A state that shows the same plant shows the same protection records. -/
theorem State.prot_of_plant {s t : State} (h : t.plant = s.plant) (l : SecIx) : t.secs[l].prot = s.secs[l].prot :=
  congrArg (fun p => (p.secs l).prot) h

/-- A state that shows the same plant shows the same phases. -/
theorem State.phase_of_plant {s t : State} (h : t.plant = s.plant) (l : SecIx) : t.phase l = s.phase l :=
  congrArg (fun p => (p.secs l).feeder.phase) h

/-- A state that shows the same plant shows the same owner of the test source. -/
theorem State.source_of_plant {s t : State} (h : t.plant = s.plant) : t.source = s.source := congrArg Plant.source h

/-! ### Sections taken down -/

theorem State.enterPhase_prot (s : State) (k l : SecIx) (p : Phase) (c : Cause) :
    (s.enterPhase k p c).secs[l].prot = s.secs[l].prot := by
  unfold State.enterPhase State.modFeeder
  dsimp only
  rw [State.queueSection_secs, State.modSec_prot]
  exact fun _ => rfl

/-- A change of one section's state shows every other in the same phase. -/
theorem State.enterPhase_phase_ne (s : State) {k l : SecIx} (p : Phase) (c : Cause) (h : l ≠ k) :
    (s.enterPhase k p c).phase l = s.phase l := congrArg (·.feeder.phase) (s.enterPhase_ne p c h)

theorem State.leaveLive_prot (s : State) (k l : SecIx) : (s.leaveLive k).secs[l].prot = s.secs[l].prot := by
  unfold State.leaveLive
  rw [State.prot_of_plant (State.holdSection_plant _ k)]
  exact s.modSec_prot k l fun _ => rfl

theorem State.releaseSource_prot (s : State) (k l : SecIx) : (s.releaseSource k).secs[l].prot = s.secs[l].prot := by
  unfold State.releaseSource
  split
  · split
    · rfl
    · exact State.enterPhase_prot _ _ l _ _
  · rfl

/-- A section that is taken down keeps its measured values, its heat and its trim (R147, R151), as does every other. -/
theorem State.takeDown_prot (s : State) (k l : SecIx) (p : Phase) (c : Cause) :
    (s.takeDown k p c).secs[l].prot = s.secs[l].prot := by
  unfold State.takeDown
  dsimp only
  rw [State.releaseSource_prot]
  split
  · rw [State.leaveLive_prot, State.enterPhase_prot]
  · rw [State.enterPhase_prot]

/-- A section's leaving LIVE changes no phase by itself. -/
theorem State.leaveLive_phase (s : State) (k l : SecIx) : (s.leaveLive k).phase l = s.phase l := by
  unfold State.leaveLive
  rw [State.phase_of_plant (State.holdSection_plant _ k)]
  exact s.modSec_phase k l fun _ => rfl

/-- Only the holds of its trucks touch the test source when a section leaves LIVE, and they do not. -/
theorem State.leaveLive_source (s : State) (k : SecIx) : (s.leaveLive k).source = s.source := by
  unfold State.leaveLive
  rw [State.source_of_plant (State.holdSection_plant _ k)]
  rfl

/-- A section that does not own the test source hands none over (R162). -/
theorem State.releaseSource_of_ne {s : State} {k : SecIx} (h : s.source ≠ some k) : s.releaseSource k = s := if_neg h

/-- A section without the test source goes down alone: the source stays, and every other section keeps its phase (R171). -/
theorem State.takeDown_alone {s : State} {k : SecIx} (h : s.source ≠ some k) (p : Phase) (c : Cause) :
    (s.takeDown k p c).source = s.source ∧ ∀ l, l ≠ k → (s.takeDown k p c).phase l = s.phase l := by
  unfold State.takeDown
  dsimp only
  split
  · rw [State.releaseSource_of_ne (by rw [State.leaveLive_source]; exact h)]
    exact ⟨State.leaveLive_source _ k, fun l hl => by
      rw [State.leaveLive_phase]
      exact State.enterPhase_phase_ne _ p c hl⟩
  · rw [State.releaseSource_of_ne (by exact h)]
    exact ⟨rfl, fun l hl => State.enterPhase_phase_ne _ p c hl⟩

/-! ### Trips -/

/-- A cause that finds a section out of LIVE trips nothing (R172). -/
theorem State.trip_of_not_live {s : State} {k : SecIx} (h : s.isLive k = false) (c : Cause) : s.trip k c = s := by
  simp [State.trip, h]

/-- What a trip of a LIVE section does (R172, R173, R179): it counts the trip in the feeder record, takes the section down,
and raises TRIP, at the third trip of a window after LOCKOUT. -/
theorem State.trip_cases {s : State} {k : SecIx} (h : s.isLive k = true) (c : Cause) :
    ∃ f p e, let u := (s.modFeeder k f).takeDown k p e
      s.trip k c = u.raiseAlert .trip (some k) none
      ∨ s.trip k c = (u.raiseAlert .lockout (some k) none).raiseAlert .trip (some k) none := by
  unfold State.trip
  rw [if_pos h]
  dsimp only
  split
  · exact ⟨_, _, _, .inr rfl⟩
  · exact ⟨_, _, _, .inl rfl⟩

/-- A trip leaves every protection record as it is (R147, R151). -/
theorem State.trip_prot (s : State) (k l : SecIx) (c : Cause) : (s.trip k c).secs[l].prot = s.secs[l].prot := by
  cases hk : s.isLive k with
  | false => rw [State.trip_of_not_live hk]
  | true =>
    have down (f p e) : ((s.modFeeder k f).takeDown k p e).secs[l].prot = s.secs[l].prot := by
      rw [State.takeDown_prot]
      exact s.modSec_prot k l fun _ => rfl
    obtain ⟨f, p, e, h | h⟩ := State.trip_cases hk c <;> rw [h] <;> exact down f p e

/-- A trip drops no alert that is held. -/
theorem AlertHeld.trip {kind : AlertKind} {k' : Option SecIx} {s : State} (h : AlertHeld kind k' s) (k : SecIx)
    (c : Cause) : AlertHeld kind k' (s.trip k c) := by
  cases hk : s.isLive k with
  | false => rwa [State.trip_of_not_live hk]
  | true =>
    have down (f p e) : AlertHeld kind k' ((s.modFeeder k f).takeDown k p e) := h.of_alt (by simp)
    obtain ⟨f, p, e, ht | ht⟩ := State.trip_cases hk c <;> rw [ht]
    · exact (down f p e).raiseAlert _ _ _
    · exact ((down f p e).raiseAlert _ _ _).raiseAlert _ _ _

/-- No LIVE section owns the test source, so that none hands it over when it trips (R162). -/
def State.LiveSourceless (s : State) : Prop := ∀ k : SecIx, s.isLive k = true → s.source ≠ some k

/-- The Feeder Sequencer's promise gives it: the owner of the source is TESTING. -/
theorem State.SourceKept.liveSourceless {s : State} (h : s.SourceKept) : s.LiveSourceless := by
  intro k hk hs
  have testing := (h.1 k).2 hs
  rw [of_decide_eq_true hk] at testing
  cases testing

/-- A trip touches neither the test source nor the phase of another section while no LIVE section owns the source. -/
theorem State.LiveSourceless.trip_alone {s : State} (h : s.LiveSourceless) (k : SecIx) (c : Cause) :
    (s.trip k c).source = s.source ∧ ∀ l, l ≠ k → (s.trip k c).phase l = s.phase l := by
  cases hk : s.isLive k with
  | false => rw [State.trip_of_not_live hk]; exact ⟨rfl, fun _ _ => rfl⟩
  | true =>
    have down (f p e) : ((s.modFeeder k f).takeDown k p e).source = s.source
        ∧ ∀ l, l ≠ k → ((s.modFeeder k f).takeDown k p e).phase l = s.phase l := by
      obtain ⟨source, phase⟩ := State.takeDown_alone (s := s.modFeeder k f) (h k hk) p e
      exact ⟨source, fun l hl => (phase l hl).trans (s.modSec_phase_ne _ hl)⟩
    obtain ⟨f, p, e, ht | ht⟩ := State.trip_cases hk c <;> rw [ht] <;> exact down f p e

end Sys2Proof.Machine
end

section
/-! PROOF. The evaluation of a good scan by Feeder Protection (R144): what the evaluation of one section does to that section
and leaves of the others, and the obligations on the heat account (R147) and the sag trim (R150, R151). -/

namespace Sys2Proof.Machine

/-! ### One section's turn in a fold over the sections -/

/-- What holds before a section's turn is kept by the turns of the others, and its own turn makes of it what the turns of the
others keep again. -/
theorem State.eachSec_turn {P Q : State → Prop} {f : SecIx → State → State} (k : SecIx)
    (before : ∀ j s, j ≠ k → P s → P (f j s)) (turn : ∀ s, P s → Q (f k s))
    (after : ∀ j s, j ≠ k → Q s → Q (f j s)) {s : State} (h : P s) : Q (s.eachSec f) := by
  have rest (l : List SecIx) (hl : k ∉ l) (s : State) (hs : Q s) : Q (l.foldl (fun s j => f j s) s) := by
    induction l generalizing s with
    | nil => exact hs
    | cons j l ih =>
      obtain ⟨hj, hl⟩ := not_or.1 (mt List.mem_cons.2 hl)
      exact ih hl _ (after j s (Ne.symm hj) hs)
  have whole (l : List SecIx) (hl : l.Nodup) (hk : k ∈ l) (s : State) (hs : P s) :
      Q (l.foldl (fun s j => f j s) s) := by
    induction l generalizing s with
    | nil => cases hk
    | cons j l ih =>
      obtain ⟨hj, hl⟩ := List.nodup_cons.1 hl
      by_cases e : j = k
      · subst e
        exact rest l hj _ (turn s hs)
      · exact ih hl (List.mem_of_ne_of_mem (Ne.symm e) hk) _ (before j s e hs)
  exact whole allSecs (List.nodup_finRange 6) (List.mem_finRange k) s h

/-! ### What the steps of an evaluation are made of -/

section Keeps
variable {P : State → Prop} {k : SecIx} (prot : ∀ s f, P s → P (s.modProt k f))
  (alert : ∀ s kind, P s → P (s.raiseAlert kind (some k) none))
include prot alert

/-- The sag step only writes the section's protection record and raises an alert for it (R150, R151). -/
theorem State.sagStep_keeps {s : State} (far : Nat) (h : P s) : P (s.sagStep far k) := by
  unfold State.sagStep
  split
  · dsimp only
    split
    · exact alert _ _ (prot _ _ h)
    · exact prot _ _ h
  · exact h

/-- The draw step only writes the section's protection record and raises an alert for it (R152, R153, R154). -/
theorem State.drawStep_keeps {s : State} (current : Nat) (h : P s) : P (s.drawStep current k) := by
  unfold State.drawStep
  split
  · dsimp only
    split
    · exact alert _ _ (prot _ _ h)
    · exact prot _ _ h
  · exact h

/-- A section's evaluation is made of writes to its protection record, alerts raised for it, and its trip (R144). -/
theorem State.evaluate_keeps (trip : ∀ s c, P s → P (s.trip k c)) {s : State} (r : ScanResult) (h : P s) :
    P (s.evaluate r k) := by
  have checks (c : Settings) (current : Nat) (inc : Int) (s : State) (hs : P s) : P (s.tripChecks c current inc k) := by
    unfold State.tripChecks
    split
    · exact trip _ _ hs
    · split
      · exact trip _ _ hs
      · exact hs
  unfold State.evaluate
  split
  · exact h
  · exact prot _ _ (State.drawStep_keeps prot alert _ (State.sagStep_keeps prot alert _ (checks _ _ _ _ (prot _ _ h))))

end Keeps

/-! ### What an evaluation leaves of the others -/

/-- An evaluation changes no setting (R157). -/
theorem State.evaluate_settings (s : State) (r : ScanResult) (k l : SecIx) :
    (s.evaluate r k).secs[l].settings = s.secs[l].settings :=
  congrArg (fun p => (p.secs l).settings) (s.evaluate_outer r k)

/-- An evaluation changes no limit (R157). -/
theorem State.evaluate_limits (s : State) (r : ScanResult) (k : SecIx) : (s.evaluate r k).limits = s.limits :=
  congrArg Plant.limits (s.evaluate_outer r k)

/-- The evaluation of a section leaves the protection record of every other, even where it trips. -/
theorem State.evaluate_prot_ne (s : State) (r : ScanResult) {k l : SecIx} (hl : l ≠ k) :
    (s.evaluate r k).secs[l].prot = s.secs[l].prot :=
  State.evaluate_keeps (P := fun u => u.secs[l].prot = s.secs[l].prot)
    (fun u f h => (congrArg Sec.prot (u.modSec_sec_ne _ hl)).trans h)
    (fun _ _ h => h)
    (fun u c h => (u.trip_prot k l c).trans h) r rfl

/-- An evaluation drops no alert that is held. -/
theorem AlertHeld.evaluate {kind : AlertKind} {k' : Option SecIx} {s : State} (h : AlertHeld kind k' s)
    (r : ScanResult) (k : SecIx) : AlertHeld kind k' (s.evaluate r k) :=
  State.evaluate_keeps (P := AlertHeld kind k') (fun _ _ hu => hu.of_alt rfl) (fun _ _ hu => hu.raiseAlert _ _ _)
    (fun _ c hu => hu.trip k c) r h

/-- An update of a section's protection record shows every section in the same phase. -/
theorem State.modProt_phase (s : State) (k l : SecIx) (f : Prot → Prot) : (s.modProt k f).phase l = s.phase l := by
  unfold State.modProt
  rw [State.modSec_phase]
  exact fun _ => rfl

/-- Whether LIVE sections own the source is read from the phases and the source alone. -/
theorem State.LiveSourceless.congr {s t : State} (h : s.LiveSourceless) (source : t.source = s.source)
    (phase : ∀ l, t.phase l = s.phase l) : t.LiveSourceless := by
  intro l hl
  rw [source]
  exact h l (by simpa only [State.isLive, phase l] using hl)

/-- A trip leaves every LIVE section without the source. -/
theorem State.LiveSourceless.trip {s : State} (h : s.LiveSourceless) (k : SecIx) (c : Cause) :
    (s.trip k c).LiveSourceless := by
  cases hk : s.isLive k with
  | false => rwa [State.trip_of_not_live hk]
  | true =>
    obtain ⟨source, phase⟩ := h.trip_alone k c
    intro l hl
    rw [source]
    by_cases e : l = k
    · exact h l (e ▸ hk)
    · exact h l (by simpa only [State.isLive, phase l e] using hl)

/-- While no LIVE section owns the source, the evaluation of a section leaves every other in its phase, and no LIVE section
gets the source. -/
theorem State.LiveSourceless.evaluate {s : State} (h : s.LiveSourceless) (r : ScanResult) (k : SecIx) :
    (s.evaluate r k).LiveSourceless ∧ ∀ l, l ≠ k → (s.evaluate r k).phase l = s.phase l :=
  State.evaluate_keeps (P := fun u => u.LiveSourceless ∧ ∀ l, l ≠ k → u.phase l = s.phase l)
    (fun u f hu =>
      ⟨hu.1.congr rfl fun l => u.modProt_phase k l f, fun l hl => (u.modProt_phase k l f).trans (hu.2 l hl)⟩)
    (fun _ _ hu => ⟨hu.1.congr rfl fun _ => rfl, hu.2⟩)
    (fun _ c hu => ⟨hu.1.trip k c, fun l hl => ((hu.1.trip_alone k c).2 l hl).trans (hu.2 l hl)⟩)
    r ⟨h, fun _ _ => rfl⟩

/-! ### What an evaluation does to its own section -/

/-- The sag step keeps every phase. -/
theorem State.sagStep_phase (s : State) (far : Nat) (k l : SecIx) : (s.sagStep far k).phase l = s.phase l :=
  State.sagStep_keeps (P := fun u => u.phase l = s.phase l)
    (fun u f h => (u.modProt_phase k l f).trans h) (fun _ _ h => h) far rfl

/-- The draw step keeps every phase. -/
theorem State.drawStep_phase (s : State) (current : Nat) (k l : SecIx) : (s.drawStep current k).phase l = s.phase l :=
  State.drawStep_keeps (P := fun u => u.phase l = s.phase l)
    (fun u f h => (u.modProt_phase k l f).trans h) (fun _ _ h => h) current rfl

/-- The trip checks leave the protection record as it is (R146, R148). -/
theorem State.tripChecks_prot (s : State) (c : Settings) (current : Nat) (inc : Int) (k : SecIx) :
    (s.tripChecks c current inc k).secs[k].prot = s.secs[k].prot := by
  unfold State.tripChecks
  split
  · exact s.trip_prot k k _
  · split
    · exact s.trip_prot k k _
    · rfl

/-- An update of a section's protection record, read back. -/
theorem State.modProt_prot (s : State) (k : SecIx) (f : Prot → Prot) : (s.modProt k f).secs[k].prot = f s.secs[k].prot :=
  congrArg Sec.prot (s.modSec_sec_self k _)

/-- A raised alert leaves every protection record as it is. -/
theorem State.raiseAlert_prot (s : State) (kind : AlertKind) (k : Option SecIx) (tag : Option Nat) (l : SecIx) :
    (s.raiseAlert kind k tag).secs[l].prot = s.secs[l].prot := rfl

/-- The sag step sets the trim of a LIVE section, and nothing else of its record (R150). -/
theorem State.sagStep_prot (s : State) (far : Nat) (k : SecIx) :
    (s.sagStep far k).secs[k].prot =
      if s.isLive k then { s.secs[k].prot with sag := sagAfter s.secs[k].prot.sag far s.limits.vMin }
      else s.secs[k].prot := by
  unfold State.sagStep
  split
  · dsimp only
    split
    · rw [State.raiseAlert_prot]
      exact s.modProt_prot k _
    · exact s.modProt_prot k _
  · rfl

/-- The draw step brings the account of the draw of a LIVE section up to date, and nothing else of its record (R152). -/
theorem State.drawStep_prot (s : State) (current : Nat) (k : SecIx) :
    (s.drawStep current k).secs[k].prot =
      if s.isLive k then s.secs[k].prot.account (s.unaccountedDraw k current) s.limits.unaccounted
      else s.secs[k].prot := by
  unfold State.drawStep
  split
  · dsimp only
    split
    · rw [State.raiseAlert_prot]
      exact s.modProt_prot k _
    · exact s.modProt_prot k _
  · rfl

/-- The account of the draw leaves the trim as it is (R153). -/
theorem Prot.account_sag (p : Prot) (w threshold : Nat) : (p.account w threshold).sag = p.sag := rfl

/-- The draw step leaves the trim as it is (R152). -/
theorem State.drawStep_sag (s : State) (current : Nat) (k : SecIx) :
    (s.drawStep current k).secs[k].prot.sag = s.secs[k].prot.sag := by
  rw [State.drawStep_prot]
  split
  · exact Prot.account_sag _ _ _
  · rfl

/-- The sag step raises SAG as the trim of a LIVE section falls to its floor (R151). -/
theorem State.sagStep_held {s : State} {k : SecIx} {far : Nat} (live : s.isLive k = true)
    (floor : sagAfter s.secs[k].prot.sag far s.limits.vMin = Config.sagFloor)
    (above : s.secs[k].prot.sag ≠ Config.sagFloor) : AlertHeld .sag (some k) (s.sagStep far k) := by
  unfold State.sagStep
  rw [if_pos live]
  dsimp only
  rw [if_pos ⟨floor, above⟩]
  exact State.raiseAlert_held _ _ _ _

/-- Steps 1 to 3 of the evaluation of a section with given settings: its measured values, its heat and its trips (R144). -/
def State.heated (s : State) (r : ScanResult) (k : SecIx) (c : Settings) : State :=
  let inc := heatIncrement (r.feederCurrent k) c.f r.delta
  (s.modProt k fun p => (p.measure r k).heatUp c inc).tripChecks c (r.feederCurrent k) inc k

/-- The evaluation of a configured section: its first three steps, then the trim, the draw and the fixed load (R144). -/
theorem State.evaluate_eq {s : State} {k : SecIx} {c : Settings} (hc : s.secs[k].settings = some c) (r : ScanResult) :
    ∃ fixed, s.evaluate r k =
      (((s.heated r k c).sagStep (r.farVoltage k) k).drawStep (r.feederCurrent k) k).modProt k fun p =>
        { p with fixedLoad := fixed } := by
  unfold State.evaluate
  rw [hc]
  exact ⟨_, rfl⟩

/-- The record of a section after its measured values, its heat and its trips. -/
theorem State.heated_prot (s : State) (r : ScanResult) (k : SecIx) (c : Settings) :
    (s.heated r k c).secs[k].prot =
      (s.secs[k].prot.measure r k).heatUp c (heatIncrement (r.feederCurrent k) c.f r.delta) := by
  unfold State.heated
  rw [State.tripChecks_prot, State.modProt_prot]

/-- The limits after them. -/
theorem State.heated_limits (s : State) (r : ScanResult) (k : SecIx) (c : Settings) :
    (s.heated r k c).limits = s.limits := by
  unfold State.heated
  exact congrArg Plant.limits ((State.tripChecks_outer _ c _ _ k).trans (s.modProt_outer k _))

/-- A section is LIVE after its evaluation exactly where its first three steps left it LIVE: no later step changes a phase. -/
theorem State.evaluate_isLive {s : State} {k : SecIx} {c : Settings} (hc : s.secs[k].settings = some c)
    (r : ScanResult) : (s.evaluate r k).isLive k = (s.heated r k c).isLive k := by
  obtain ⟨_, e⟩ := State.evaluate_eq hc r
  have phase : (s.evaluate r k).phase k = (s.heated r k c).phase k := by
    rw [e, State.modProt_phase, State.drawStep_phase, State.sagStep_phase]
  unfold State.isLive
  rw [phase]

/-- The trim of a configured section after its evaluation: brought up to date where the section is still LIVE, else kept
(R150). -/
theorem State.evaluate_sag {s : State} {k : SecIx} {c : Settings} (hc : s.secs[k].settings = some c) (r : ScanResult) :
    (s.evaluate r k).secs[k].prot.sag =
      if (s.evaluate r k).isLive k then sagAfter s.secs[k].prot.sag (r.farVoltage k) s.limits.vMin
      else s.secs[k].prot.sag := by
  rw [State.evaluate_isLive hc]
  obtain ⟨fixed, e⟩ := State.evaluate_eq hc r
  rw [e, State.modProt_prot]
  dsimp only
  rw [State.drawStep_sag, State.sagStep_prot, State.heated_prot, State.heated_limits]
  split <;> rfl

/-- The evaluation of a configured section raises SAG as its trim falls to the floor (R151). -/
theorem State.evaluate_sag_held {s : State} {k : SecIx} {c : Settings} (hc : s.secs[k].settings = some c)
    (r : ScanResult) (above : s.secs[k].prot.sag ≠ Config.sagFloor)
    (floor : (s.evaluate r k).secs[k].prot.sag = Config.sagFloor) : AlertHeld .sag (some k) (s.evaluate r k) := by
  rw [State.evaluate_sag hc, State.evaluate_isLive hc] at floor
  obtain ⟨fixed, e⟩ := State.evaluate_eq hc r
  split at floor
  · next live =>
    have raised : AlertHeld .sag (some k) ((s.heated r k c).sagStep (r.farVoltage k) k) :=
      State.sagStep_held live (by rw [State.heated_prot, State.heated_limits]; exact floor)
        (by rw [State.heated_prot]; exact above)
    rw [e]
    exact (State.drawStep_keeps (P := AlertHeld .sag (some k)) (fun _ _ h => h.of_alt rfl)
      (fun _ _ h => h.raiseAlert _ _ _) _ raised).of_alt rfl
  · exact absurd floor above

/-! ### The heat account -/

/-- What the first two steps of R144 set: the last measured values and the heat account. -/
def Prot.readings (p : Prot) : Nat × Nat × Nat × Option Nat × Nat :=
  (p.feederCurrent, p.feedVoltage, p.farVoltage, p.lastScan, p.heat)

/-- The account of the draw leaves them as they are (R153). -/
theorem Prot.account_readings (p : Prot) (w threshold : Nat) : (p.account w threshold).readings = p.readings := rfl

/-- A configured section's last measured values and heat account after its evaluation are those of the first two steps, LIVE
or not, tripped or not (R145, R147). -/
theorem State.evaluate_readings {s : State} {k : SecIx} {c : Settings} (hc : s.secs[k].settings = some c)
    (r : ScanResult) :
    (s.evaluate r k).secs[k].prot.readings =
      (r.feederCurrent k, r.feedVoltage k, r.farVoltage k, some r.number,
        clampInt ((s.secs[k].prot.heat : Int) + heatIncrement (r.feederCurrent k) c.f r.delta) c.heatLimit) := by
  have draw (u : State) (current : Nat) :
      (u.drawStep current k).secs[k].prot.readings = u.secs[k].prot.readings := by
    rw [State.drawStep_prot]
    split
    · exact Prot.account_readings _ _ _
    · rfl
  have sag (u : State) (far : Nat) : (u.sagStep far k).secs[k].prot.readings = u.secs[k].prot.readings := by
    rw [State.sagStep_prot]
    split <;> rfl
  obtain ⟨fixed, e⟩ := State.evaluate_eq hc r
  calc (s.evaluate r k).secs[k].prot.readings
      = (((s.heated r k c).sagStep (r.farVoltage k) k).drawStep (r.feederCurrent k) k).secs[k].prot.readings := by
        rw [e, State.modProt_prot]; rfl
    _ = (s.heated r k c).secs[k].prot.readings := by rw [draw, sag]
    _ = _ := by rw [State.heated_prot]; rfl

/-- A section without settings is not evaluated. -/
theorem State.evaluate_unset {s : State} {k : SecIx} (h : s.secs[k].settings = none) (r : ScanResult) :
    s.evaluate r k = s := by
  unfold State.evaluate
  rw [h]

/-- The clamp of R147, in the integers. -/
theorem clampInt_eq (x : Int) (limit : Nat) : (clampInt x limit : Int) = max 0 (min (limit : Int) x) := by
  unfold clampInt
  omega

/-- The increment of R147, with its squares written out. -/
theorem heatIncrement_eq (current f dt : Nat) :
    heatIncrement current f dt =
      (((current / 10 : Nat) : Int) * ((current / 10 : Nat) : Int) - ((f / 10 : Nat) : Int) * ((f / 10 : Nat) : Int))
        * ((dt / 10 : Nat) : Int) := by
  simp only [heatIncrement, sq]

/-! ### The command -/

/-- Every section's evaluation of a scan in turn, S1 first, with the scan taken off the list (R144). -/
def State.evaluateAll (s : State) (r : ScanResult) (q : List ScanResult) : State :=
  { s with fprScans := q }.eachSec fun k s => s.evaluate r k

/-- A command whose work touches nothing outer leaves it so at its end, where starting a frame touches the line alone
(R198). -/
theorem OuterKept.of_outer {s t : State} (h : t.plant.outer = s.plant.outer) : OuterKept s t.kick := by
  obtain ⟨_, _, e⟩ := t.kick_link
  unfold OuterKept
  rw [e]
  exact congrArg (fun p : Plant => { p with rx := s.link.rx, inbound := s.link.inbound, tx := s.link.tx }) h

/-- The evaluation of every section touches nothing outer but the list of scans it takes one from (R144). -/
theorem State.evaluateAll_outer (s : State) (r : ScanResult) (q : List ScanResult) :
    (s.evaluateAll r q).plant.outer = ({ s with fprScans := q } : State).plant.outer :=
  State.eachSec_view (fun u => u.plant.outer) (fun k u => u.evaluate_outer r k) _

/-- What a scan leaves alone includes the scans still to be evaluated. -/
theorem OuterKept.fprScans {s t : State} (h : OuterKept s t) : t.fprScans = s.fprScans := congrArg Plant.fprScans h

/-- The command evaluates the oldest good scan for every section, and then an idle transmitter starts a frame (R144, R198). -/
theorem exec_fprScanEvaluation {s : State} {r : ScanResult} {q : List ScanResult} (h : s.fprScans = r :: q) :
    ∃ t, exec .fprScanEvaluation s = .next t
      ∧ t.secs = (s.evaluateAll r q).secs ∧ t.alt = (s.evaluateAll r q).alt ∧ OuterKept { s with fprScans := q } t := by
  have run : exec .fprScanEvaluation s = .next (s.evaluateAll r q).kick := by
    change execFprScanEvaluation s = _
    unfold execFprScanEvaluation
    rw [h]
    rfl
  obtain ⟨_, _, e⟩ := (s.evaluateAll r q).kick_link
  refine ⟨_, run, ?_, ?_, OuterKept.of_outer (s.evaluateAll_outer r q)⟩ <;> rw [e]

/-! ### The heat account after the command -/

/-- A section without settings keeps its record through the evaluation of every section. -/
theorem State.evaluateAll_unset {s : State} (r : ScanResult) (q : List ScanResult) {k : SecIx}
    (h : s.secs[k].settings = none) : (s.evaluateAll r q).secs[k].prot = s.secs[k].prot :=
  State.eachSec_turn (P := fun u => u.secs[k].settings = none ∧ u.secs[k].prot = s.secs[k].prot)
    (Q := fun u => u.secs[k].prot = s.secs[k].prot) k
    (fun j u hj hu => ⟨(u.evaluate_settings r j k).trans hu.1, (u.evaluate_prot_ne r hj.symm).trans hu.2⟩)
    (fun u hu => (congrArg (fun v : State => v.secs[k].prot) (State.evaluate_unset hu.1 r)).trans hu.2)
    (fun j u hj hu => (u.evaluate_prot_ne r hj.symm).trans hu)
    ⟨h, rfl⟩

/-- A configured section's last measured values and heat account after the evaluation of every section: only its own turn
changes them (R145, R147). -/
theorem State.evaluateAll_readings {s : State} (r : ScanResult) (q : List ScanResult) {k : SecIx} {c : Settings}
    (hc : s.secs[k].settings = some c) :
    (s.evaluateAll r q).secs[k].prot.readings =
      (r.feederCurrent k, r.feedVoltage k, r.farVoltage k, some r.number,
        clampInt ((s.secs[k].prot.heat : Int) + heatIncrement (r.feederCurrent k) c.f r.delta) c.heatLimit) :=
  State.eachSec_turn (P := fun u => u.secs[k].settings = some c ∧ u.secs[k].prot = s.secs[k].prot)
    (Q := fun u => u.secs[k].prot.readings = _) k
    (fun j u hj hu => ⟨(u.evaluate_settings r j k).trans hu.1, (u.evaluate_prot_ne r hj.symm).trans hu.2⟩)
    (fun u ⟨hset, hprot⟩ => by rw [State.evaluate_readings hset, hprot])
    (fun j u hj hu => (congrArg Prot.readings (u.evaluate_prot_ne r hj.symm)).trans hu)
    ⟨hc, rfl⟩

/-- The scaled values are read from the channels of the section, three to a section from channel 4 on (R130). -/
theorem ScanResult.channels (r : ScanResult) (k : SecIx) (ch : Fin 22) :
    (ch.val = 4 + 3 * k.val → r.feederCurrent k = (r.codes[ch]).toNat * 5 / 2)
    ∧ (ch.val = 5 + 3 * k.val → r.feedVoltage k = (r.codes[ch]).toNat)
    ∧ (ch.val = 6 + 3 * k.val → r.farVoltage k = (r.codes[ch]).toNat) := by
  unfold ScanResult.feederCurrent ScanResult.feedVoltage ScanResult.farVoltage ScanResult.code
  refine ⟨fun h => ?_, fun h => ?_, fun h => ?_⟩ <;> simp only [Fin.getElem_fin, h]

/-- Settles O41: at a section's own turn the first two steps set its readings, and no other turn and no trip changes them. -/
theorem heatAccountFollowsTheCurrent : Obligations.HeatAccountFollowsTheCurrent := by
  refine ⟨ScanResult.channels, fun r q s h => ?_⟩
  obtain ⟨t, run, secs, _, kept⟩ := exec_fprScanEvaluation h
  refine ⟨t, run, kept.fprScans, kept, fun k hk => ?_, fun k c hc => ?_⟩
  · rw [secs]
    exact State.evaluateAll_unset r q hk
  · have readings := State.evaluateAll_readings r q hc
    rw [← secs] at readings
    simp only [Prot.readings, Prod.mk.injEq] at readings
    obtain ⟨current, feed, far, scan, heat⟩ := readings
    refine ⟨current, feed, far, scan, ?_⟩
    rw [heat, clampInt_eq, heatIncrement_eq]

/-! ### The sag trim after the command -/

/-- The trim of a section as an evaluation from `s` leaves it in `u`: brought up to date where the section is still LIVE, else
kept, and SAG held where it has fallen to its floor (R150, R151). -/
def State.Trimmed (s u : State) (k : SecIx) (far : Nat) : Prop :=
  u.secs[k].prot.sag =
      (if u.isLive k then sagAfter s.secs[k].prot.sag far s.limits.vMin else s.secs[k].prot.sag)
  ∧ (s.secs[k].prot.sag ≠ Config.sagFloor → u.secs[k].prot.sag = Config.sagFloor → AlertHeld .sag (some k) u)

/-- The evaluation of a configured section trims it. -/
theorem State.evaluate_trimmed {s : State} {k : SecIx} {c : Settings} (hc : s.secs[k].settings = some c)
    (r : ScanResult) : s.Trimmed (s.evaluate r k) k (r.farVoltage k) :=
  ⟨State.evaluate_sag hc r, State.evaluate_sag_held hc r⟩

/-- A section stays trimmed through the evaluation of another, which changes neither its phase nor its trim and drops no
alert. -/
theorem State.Trimmed.evaluate {s u : State} {k : SecIx} {far : Nat} (h : s.Trimmed u k far) (hu : u.LiveSourceless)
    (r : ScanResult) {j : SecIx} (hj : j ≠ k) : s.Trimmed (u.evaluate r j) k far := by
  have phase := (hu.evaluate r j).2 k hj.symm
  have prot := u.evaluate_prot_ne r hj.symm
  unfold State.Trimmed State.isLive at *
  rw [phase, prot]
  exact ⟨h.1, fun above floor => (h.2 above floor).evaluate r j⟩

/-- Whether a section is trimmed is read from the sections and the alerts alone. -/
theorem State.Trimmed.congr {s u t : State} {k : SecIx} {far : Nat} (h : s.Trimmed u k far) (secs : t.secs = u.secs)
    (alt : t.alt = u.alt) : s.Trimmed t k far := by
  unfold State.Trimmed State.isLive State.phase at *
  rw [secs]
  exact ⟨h.1, fun above floor => (h.2 above floor).of_alt alt⟩

/-- The evaluation of every section trims each configured one (R150, R151). -/
theorem State.evaluateAll_trimmed {s : State} (hs : s.LiveSourceless) (r : ScanResult) (q : List ScanResult) {k : SecIx}
    {c : Settings} (hc : s.secs[k].settings = some c) : s.Trimmed (s.evaluateAll r q) k (r.farVoltage k) := by
  have all : (s.evaluateAll r q).LiveSourceless ∧ s.Trimmed (s.evaluateAll r q) k (r.farVoltage k) :=
    State.eachSec_turn (P := fun u => u.LiveSourceless ∧ u.limits = s.limits ∧ u.secs[k].settings = some c
        ∧ u.secs[k].prot = s.secs[k].prot)
      (Q := fun u => u.LiveSourceless ∧ s.Trimmed u k (r.farVoltage k)) k
      (fun j u hj ⟨source, limits, set, prot⟩ => ⟨(source.evaluate r j).1, (u.evaluate_limits r j).trans limits,
        (u.evaluate_settings r j k).trans set, (u.evaluate_prot_ne r hj.symm).trans prot⟩)
      (fun u ⟨source, limits, set, prot⟩ => ⟨(source.evaluate r k).1, by
        have trimmed := State.evaluate_trimmed set r
        unfold State.Trimmed at trimmed ⊢
        rwa [limits, prot] at trimmed⟩)
      (fun j u hj ⟨source, trimmed⟩ => ⟨(source.evaluate r j).1, trimmed.evaluate source r hj⟩)
      ⟨hs, rfl, hc, rfl⟩
  exact all.2

/-- The three bands of R150: below V_min, from V_min + 100 up, and between. -/
theorem sagAfter_bands (k far vMin : Nat) :
    (far < vMin → sagAfter k far vMin = max (k - 1) 4)
    ∧ (vMin + 100 ≤ far → sagAfter k far vMin = min (k + 1) 8)
    ∧ (vMin ≤ far → far < vMin + 100 → sagAfter k far vMin = k) := by
  unfold sagAfter Config.sagFloor Config.sagFull Config.sagRecovery
  refine ⟨fun h => ?_, fun h => ?_, fun h h' => ?_⟩
  · rw [if_pos h]
  · rw [if_neg (by omega), if_pos h]
  · rw [if_neg (by omega), if_neg (by omega)]

/-- Settles O43: a section's own turn trims it if it is still LIVE, and no other turn takes it out of LIVE, because no LIVE
section hands over the test source when it trips. -/
theorem sagTrimFollowsTheFarEnd : Obligations.SagTrimFollowsTheFarEnd := by
  intro r q k c s hs h hc
  obtain ⟨t, run, secs, alt, _⟩ := exec_fprScanEvaluation h
  obtain ⟨trim, alert⟩ := (State.evaluateAll_trimmed hs.liveSourceless r q hc).congr secs alt
  refine ⟨t, run, fun _ hl => ?_, fun hl => ?_⟩
  · rw [if_pos hl] at trim
    obtain ⟨below, above, between⟩ := sagAfter_bands s.secs[k].prot.sag (r.farVoltage k) s.limits.vMin
    exact ⟨fun hb => trim.trans (below hb), fun ha => trim.trans (above ha), fun h1 h2 => trim.trans (between h1 h2),
      alert⟩
  · rwa [hl, if_neg Bool.false_ne_true] at trim

end Sys2Proof.Machine
end

section
/-! PROOF. The Alert List: where a raising finds its pair (R183), the order in which ATTEND takes the pending alerts (R184),
and what ATTEND and ACK-ALERT change (R184, R185). -/

namespace Sys2Proof.Machine

/-! ### Raising (R183) -/

/-- A raised record carries the tag it is given for the three kinds that R181 names, and no tag for the others. -/
theorem AlertKind.tagged_ite (kind : AlertKind) (tag : Option Nat) :
    (if kind.tagged then tag else none) =
      if kind ∈ [.gapOverrun, .contactStuck, .contactFault] then tag else none := by
  cases kind <;> rfl

/-- A record is for a kind and section exactly where these are its pair. -/
theorem Alert.isFor_iff {a : Alert} {kind : AlertKind} {k : Option SecIx} :
    a.isFor kind k = true ↔ a.pair = (kind, k) := by
  simp only [Alert.isFor, Alert.pair, decide_eq_true_eq, Prod.mk.injEq]

/-- A list holds a record for a kind and section exactly where these are among its pairs. -/
theorem any_isFor_iff {l : List Alert} {kind : AlertKind} {k : Option SecIx} :
    (l.any fun p => p.isFor kind k) = true ↔ (kind, k) ∈ l.map Alert.pair := by
  simp only [List.any_eq_true, Alert.isFor_iff, List.mem_map]

section Raise
variable {l : AlertList} {kind : AlertKind} {k : Option SecIx}

/-- A pair that is neither pending nor in attendance becomes a record at the end of the pending alerts. -/
theorem AlertList.raise_absent (absent : (kind, k) ∉ l.pending.map Alert.pair)
    (other : ∀ a, l.attended = some a → a.pair ≠ (kind, k)) (tag : Option Nat) (cycle : Nat) :
    l.raise kind k tag cycle =
      { l with pending := l.pending ++ [⟨kind, k, cycle, if kind.tagged then tag else none, none⟩] } := by
  rcases l.raise_spec kind k tag cycle with ⟨a, ha, hf, _⟩ | ⟨_, hp, _⟩ | ⟨_, _, e⟩
  · exact absurd (Alert.isFor_iff.mp hf) (other a ha)
  · exact absurd (any_isFor_iff.mp hp) absent
  · exact e

/-- A pair that is pending already is raised without effect. -/
theorem AlertList.raise_pending (pending : (kind, k) ∈ l.pending.map Alert.pair)
    (other : ∀ a, l.attended = some a → a.pair ≠ (kind, k)) (tag : Option Nat) (cycle : Nat) :
    l.raise kind k tag cycle = l := by
  rcases l.raise_spec kind k tag cycle with ⟨a, ha, hf, _⟩ | ⟨_, _, e⟩ | ⟨_, hp, _⟩
  · exact absurd (Alert.isFor_iff.mp hf) (other a ha)
  · exact e
  · exact absurd (any_isFor_iff.mpr pending) (Bool.eq_false_iff.mp hp)

/-- The record in attendance takes the raising of its own pair as its recurrence. -/
theorem AlertList.raise_attended {a : Alert} (ha : l.attended = some a) (pair : a.pair = (kind, k)) (tag : Option Nat)
    (cycle : Nat) :
    l.raise kind k tag cycle =
      { l with attended := some { a with recur := some (cycle, if kind.tagged then tag else none) } } := by
  have own : a.isFor kind k = true := Alert.isFor_iff.mpr pair
  rcases l.raise_spec kind k tag cycle with ⟨b, hb, _, e⟩ | ⟨other, _⟩ | ⟨other, _⟩
  · cases ha.symm.trans hb
    exact e
  · exact absurd own (Bool.eq_false_iff.mp (other a ha))
  · exact absurd own (Bool.eq_false_iff.mp (other a ha))

end Raise

/-- Settles O15: a raising writes the Alert List alone, and each place of the pair has its own law. -/
theorem raisingActsByWhereThePairStands : Obligations.RaisingActsByWhereThePairStands := by
  intro kind k tag s
  rw [State.raiseAlert_alt, ← AlertKind.tagged_ite]
  exact ⟨rfl, fun absent other => AlertList.raise_absent absent other tag _,
    fun pending other => AlertList.raise_pending pending other tag _,
    fun _ ha pair => AlertList.raise_attended ha pair tag _⟩

/-! ### The order of alerts (R184) -/

/-- The place of an alert in the order of R184: its rank, then the number of its section; the lower goes first. -/
def Alert.place (a : Alert) : Nat ×ₗ Nat := toLex (a.kind.rank, secNumber a.sec)

/-- No two alert kinds have the same rank (R181). -/
theorem AlertKind.rank_inj {x y : AlertKind} : x.rank = y.rank ↔ x = y := by
  have named : ∀ z : AlertKind, AlertKind.ofNat z.rank = z := by
    intro z
    cases z <;> rfl
  exact (Function.LeftInverse.injective named).eq_iff

/-- An alert goes before another exactly where its place is the lower. -/
theorem Alert.before_iff {a b : Alert} : a.before b = true ↔ a.place < b.place := by
  simp only [Alert.before, Alert.place, decide_eq_true_eq, Prod.Lex.toLex_lt_toLex, AlertKind.rank_inj]

/-- The best of a list of two or more is the best once one of the first two has given way to the other. -/
theorem bestAlert_cons_cons (a b : Alert) (l : List Alert) :
    bestAlert (a :: b :: l) = bestAlert ((if b.before a then b else a) :: l) := by
  unfold bestAlert
  simp only [List.foldl_cons]
  split <;> rfl

/-- A list that is not empty has a best alert: one of its alerts, with none at a lower place. -/
theorem bestAlert_cons_spec (a : Alert) (l : List Alert) :
    ∃ b ∈ a :: l, bestAlert (a :: l) = some b ∧ ∀ c ∈ a :: l, b.place ≤ c.place := by
  induction l generalizing a with
  | nil => exact ⟨a, List.mem_singleton_self a, rfl, by simp⟩
  | cons x l ih =>
    rw [bestAlert_cons_cons]
    by_cases hx : x.before a = true
    · rw [if_pos hx]
      obtain ⟨b, hb, best, least⟩ := ih x
      have ha : b.place ≤ a.place := (least x List.mem_cons_self).trans (Alert.before_iff.mp hx).le
      exact ⟨b, List.mem_cons_of_mem a hb, best, List.forall_mem_cons.mpr ⟨ha, least⟩⟩
    · rw [if_neg hx]
      obtain ⟨b, hb, best, least⟩ := ih a
      obtain ⟨ha, hl⟩ := List.forall_mem_cons.mp least
      have hb' : b.place ≤ x.place := ha.trans (not_lt.mp fun lt => hx (Alert.before_iff.mpr lt))
      refine ⟨b, ?_, best, List.forall_mem_cons.mpr ⟨ha, List.forall_mem_cons.mpr ⟨hb', hl⟩⟩⟩
      exact List.mem_cons.mpr ((List.mem_cons.mp hb).imp_right (List.mem_cons_of_mem x))

/-! ### ATTEND on the Alert List (R184) -/

/-- With an alert in attendance nothing moves. -/
theorem AlertList.attend_attended {l : AlertList} {a : Alert} (ha : l.attended = some a) : l.attend = l := by
  simp only [AlertList.attend, ha]

/-- With nothing in attendance and no pending alert unmasked nothing moves. -/
theorem AlertList.attend_empty {l : AlertList} (ha : l.attended = none) (hu : l.unmasked = []) : l.attend = l := by
  simp only [AlertList.attend, ha, hu, bestAlert, List.foldl_nil]

/-- With nothing in attendance the unmasked pending alert of the lowest place moves there. -/
theorem AlertList.attend_best {l : AlertList} (ha : l.attended = none) (hu : l.unmasked ≠ []) :
    ∃ b ∈ l.unmasked, l.attend = { l with attended := some b, pending := l.pending.erase b }
      ∧ ∀ c ∈ l.unmasked, b.place ≤ c.place := by
  obtain ⟨a, q, e⟩ := List.exists_cons_of_ne_nil hu
  obtain ⟨b, hb, best, least⟩ := bestAlert_cons_spec a q
  rw [← e] at hb best least
  exact ⟨b, hb, by simp only [AlertList.attend, ha, best], least⟩

/-- An ATTEND leaves the masks as they are. -/
@[simp] theorem AlertList.attend_masks (l : AlertList) : l.attend.masks = l.masks := by
  unfold AlertList.attend
  split
  · rfl
  · split <;> rfl

/-! ### ACK-ALERT on the Alert List (R185) -/

/-- The Alert List once the alert in attendance is acknowledged: a recurred record goes behind the pending ones (R185). -/
def AlertList.acknowledge (l : AlertList) (a : Alert) : AlertList :=
  { l with attended := none, pending := l.pending ++ a.returned.toList }

/-- With nothing in attendance an acknowledgement is refused. -/
theorem State.ackAlert_refused {s : State} (ha : s.alt.attended = none) : s.ackAlert = (s, .reject .state 0) := by
  simp only [State.ackAlert, ha, refuse]

/-- With an alert in attendance an acknowledgement changes the Alert List alone. -/
theorem State.ackAlert_taken {s : State} {a : Alert} (ha : s.alt.attended = some a) :
    s.ackAlert = ({ s with alt := s.alt.acknowledge a },
      .ackAlert a.kind a.sec a.recur.isSome (s.alt.acknowledge a).pending.length
        (s.alt.acknowledge a).unmasked.length) := by
  simp only [State.ackAlert, ha, AlertList.acknowledge, AlertList.counts]

/-- A record that has not recurred leaves the Alert List. -/
theorem AlertList.acknowledge_pending_once {l : AlertList} {a : Alert} (ha : a.recur = none) :
    (l.acknowledge a).pending = l.pending := by
  simp only [AlertList.acknowledge, Alert.returned, ha, Option.map_none, Option.toList_none, List.append_nil]

/-- A record that has recurred is pending again, under the cycle number and tag of its recurrence. -/
theorem AlertList.acknowledge_pending_recurred {l : AlertList} {a : Alert} {c : Nat} {g : Option Nat}
    (ha : a.recur = some (c, g)) : (l.acknowledge a).pending = l.pending ++ [⟨a.kind, a.sec, c, g, none⟩] := by
  simp only [AlertList.acknowledge, Alert.returned, ha, Option.map_some, Option.toList_some]

/-! ### The commands -/

/-- The ALERT output is asserted exactly while a pending alert is unmasked (R187). -/
theorem State.alertOut_iff (s : State) : s.alertOut = true ↔ 0 < s.alt.unmasked.length := by
  simp only [State.alertOut, Bool.not_eq_true', List.isEmpty_eq_false_iff, List.length_pos_iff]

/-- A taken request whose owner changes the Alert List alone changes nothing but that and the link. -/
theorem Taken.onlyAlerts {h : ReqHdr} {len : Nat} {s : State} (ht : Taken h len s) (lo : Config.minBody ≤ len)
    (hi : len ≤ Config.maxBody) (i : Instr) (kind : Byte) (own : State → State × ReplyData) (l : AlertList)
    (d : ReplyData) (ho : own s.hunt = ({ s.hunt with alt := l }, d)) :
    ∃ t, takeRequest i h kind len own s = .next t ∧ t.alt = l ∧ OnlyAnswers i h kind d { s with alt := l } t := by
  obtain ⟨t, run, answer, notices, rest⟩ := ht.answered lo hi i kind own (by rw [ho]; exact ⟨rfl, rfl, rfl, rfl⟩)
  rw [ho] at answer notices rest
  exact ⟨t, run, congrArg State.alt rest, answer, notices, rest⟩

/-- ATTEND is the Alert List's part of a request of kind 0x50 and 2 bytes (R184, R202). -/
theorem exec_attend (h : ReqHdr) (s : State) :
    exec (.attend h) s = takeRequest (.attend h) h 0x50 2 (fun s => s.attendAlert) s := rfl

/-- ACK_ALERT is the Alert List's part of a request of kind 0x51 and 2 bytes (R185, R202). -/
theorem exec_ackAlert (h : ReqHdr) (s : State) :
    exec (.ackAlert h) s = takeRequest (.ackAlert h) h 0x51 2 (fun s => s.ackAlert) s := rfl

/-- A body of 2 bytes, a request without operands, has a length that a frame can have (R191). -/
theorem two_bytes_inFrame : Config.minBody ≤ 2 ∧ 2 ≤ Config.maxBody := by decide

/-- Settles O16: the command does to the Alert List what `AlertList.attend` does and replies with what that leaves. -/
theorem attendFetchesTheBestAlert : Obligations.AttendFetchesTheBestAlert := by
  intro h s ht
  obtain ⟨lo, hi⟩ := two_bytes_inFrame
  obtain ⟨t, run, alt, only⟩ := ht.onlyAlerts lo hi (.attend h) 0x50 (fun s => s.attendAlert) s.alt.attend _ rfl
  rw [exec_attend]
  refine ⟨t, run, alt ▸ only, alt ▸ s.alt.attend_masks, t.alertOut_iff,
    fun a ha => alt.trans (AlertList.attend_attended ha), fun ha hu => alt.trans (AlertList.attend_empty ha hu),
    fun ha hu => ?_⟩
  obtain ⟨b, hb, e, least⟩ := AlertList.attend_best ha hu
  rw [alt, e]
  exact ⟨b, hb, rfl, rfl, fun c hc => Prod.Lex.toLex_le_toLex.mp (least c hc)⟩

/-- Settles O17: with nothing in attendance the owner refuses; otherwise it leaves the Alert List acknowledged. -/
theorem acknowledgingReturnsARecurrence : Obligations.AcknowledgingReturnsARecurrence := by
  intro h s ht
  obtain ⟨lo, hi⟩ := two_bytes_inFrame
  rw [exec_ackAlert]
  refine ⟨fun idle => ht.onlyAnswers lo hi _ _ _ _ (State.ackAlert_refused idle), fun a ha => ?_⟩
  obtain ⟨t, run, alt, only⟩ := ht.onlyAlerts lo hi (.ackAlert h) 0x51 (fun s => s.ackAlert)
    (s.alt.acknowledge a) _ (State.ackAlert_taken ha)
  refine ⟨t, run, alt ▸ only, alt ▸ rfl, alt ▸ rfl, t.alertOut_iff, ?_⟩
  rw [alt]
  exact ⟨AlertList.acknowledge_pending_once, fun c g => AlertList.acknowledge_pending_recurred⟩

end Sys2Proof.Machine
end
